-- ==== Sys2Proof/Word.lean ====
section
/-! DEFINITION. The words of the P614: segment and report bytes, the 16-bit fields, the 32-bit frame counter
value, and one video pixel. Byte order and bit fields are decoded in `Machine/Operands.lean` and
`Machine/Ops.lean`. -/

namespace Sys2Proof

/-- One byte of the segment port, the report port or object memory. -/
abbrev Byte := BitVec 8

/-- A two-byte field (masks, compares, window fields, the flags word). -/
abbrev Half := BitVec 16

/-- A frame counter value: FC itself and every time T a segment carries (R67, R69). -/
abbrev FrameCount := BitVec 32

/-- One video pixel: 8-bit Y, Cb and Cr (00_scope.md, Conventions; R96). -/
structure Pixel where
  y : Byte
  cb : Byte
  cr : Byte
  deriving DecidableEq, Repr

end Sys2Proof
end

