-- ==== Sys2Proof/Config.lean ====
section
/-! DEFINITION. The fixed quantities of the part ("Capacities at a glance" of 00_scope.md and the rules cited). The
spec leaves no value of an instruction's result open, so there is no free value here: the one open content, object
memory that no load has written, is `Machine/Ops.lean`'s `Memory.unlisted` (log entry 2). -/

namespace Sys2Proof.Config

/-- Places in the segment queue (R9). -/
abbrev maxSegments : Nat := 32
/-- De-stuffed body bytes in the segment queue (R9). -/
abbrev maxQueueBytes : Nat := 16384
/-- The longest segment body (R6, check 1). -/
abbrev maxBody : Nat := 4000
/-- Object ids 0–511, one directory slot each (R23). -/
abbrev numObjects : Nat := 512
/-- Granules of object memory (R19). -/
abbrev numGranules : Nat := 2048
/-- Bytes of a granule (R19). -/
abbrev granuleBytes : Nat := 4096
/-- Live palettes (R55). -/
abbrev numPalettes : Nat := 8
/-- Entries of one palette (R55). -/
abbrev paletteSize : Nat := 256
/-- Page records (R72). -/
abbrev numPages : Nat := 32
/-- Entries of the show schedule (R81). -/
abbrev maxSchedule : Nat := 8
/-- Keys of the key queue (R131). -/
abbrev maxKeys : Nat := 8
/-- Entries of one page stack (R140). -/
abbrev maxStack : Nat := 8
/-- Reports of the report queue (R166). -/
abbrev maxReports : Nat := 16
/-- Spans admitted on a line (R107). -/
abbrev maxSpans : Nat := 16
/-- Hops of one neighbour search (R137). -/
abbrev maxHops : Nat := 24
/-- The wait count at which LATE-SLIDE is raised (R155). -/
abbrev maxWait : Nat := 300

end Sys2Proof.Config
end

