-- ==== Sys2Proof/Syntax.lean ====
section
/-! DEFINITION. The commands of the P614: one constructor per row of spec/opcode_table.json. The table gives its rows
no operands; the ones here are the model's (log entry 3). A segment command carries the de-stuffed body bytes of a whole
segment (11.3), less the bytes that the row itself fixes: the position byte of an Object Data head, the apply mode of a
Palette control byte, the operation byte of a Slide Control. The rows for video and port events carry what the event
brings (a byte, a line of pixels) or say which context or button the event is for. -/

namespace Sys2Proof

/-- The three display contexts, bottom to top (R80). -/
inductive Ctx where
  | slide | menu | popup
  deriving DecidableEq, Repr

/-- The two contexts that have a navigation state (R127). -/
inductive NavCtx where
  | menu | popup
  deriving DecidableEq, Repr

/-- A command: one row of spec/opcode_table.json. -/
inductive Instr where
  /-- SEGMENT_BYTE: one byte strobed into the segment port. -/
  | segmentByte (b : Byte)
  /-- SET_OPEN: a Set Open segment with this body. -/
  | setOpen (body : List Byte)
  /-- OBJECT_DATA_FIRST: a FIRST fragment; `rest` is the body from offset 3 on. -/
  | objectDataFirst (id : Half) (rest : List Byte)
  /-- OBJECT_DATA_ONLY: an ONLY fragment; `rest` is the body from offset 3 on. -/
  | objectDataOnly (id : Half) (rest : List Byte)
  /-- OBJECT_DATA_MIDDLE: a MIDDLE fragment; `code` is the body from offset 3 on. -/
  | objectDataMiddle (id : Half) (code : List Byte)
  /-- OBJECT_DATA_LAST: a LAST fragment; `code` is the body from offset 3 on. -/
  | objectDataLast (id : Half) (code : List Byte)
  /-- FRAGMENT_COMPLETE: the decoder finishes the fragment it holds. -/
  | fragmentComplete
  /-- OBJECT_DROP: an Object Drop segment with this body. -/
  | objectDrop (body : List Byte)
  /-- PALETTE_HOLD: a Palette segment of mode HOLD: palette field, entry count, T and the bytes from offset 6 on. -/
  | paletteHold (palette : BitVec 4) (count : BitVec 9) (time : FrameCount) (entries : List Byte)
  /-- PALETTE_NEXT: a Palette segment of mode NEXT. -/
  | paletteNext (palette : BitVec 4) (count : BitVec 9) (time : FrameCount) (entries : List Byte)
  /-- PALETTE_AT: a Palette segment of mode AT. -/
  | paletteAt (palette : BitVec 4) (count : BitVec 9) (time : FrameCount) (entries : List Byte)
  /-- PALETTE_DISCARD: a Palette segment of mode DISCARD. -/
  | paletteDiscard (palette : BitVec 4) (count : BitVec 9) (time : FrameCount) (entries : List Byte)
  /-- PAGE: a Page segment with this body. -/
  | pageSegment (body : List Byte)
  /-- BUTTONS: a Buttons segment with this body. -/
  | buttons (body : List Byte)
  /-- ANIMATIONS: an Animations segment with this body. -/
  | animations (body : List Byte)
  /-- SCROLL: a Scroll segment with this body. -/
  | scroll (body : List Byte)
  /-- SHOW: a Show segment with this body. -/
  | showSegment (body : List Byte)
  /-- SLIDE_LIST: a Slide List segment with this body. -/
  | slideList (body : List Byte)
  /-- KEY: a Key segment with this body. -/
  | key (body : List Byte)
  /-- FLAGS: a Flags segment with this body. -/
  | flags (body : List Byte)
  /-- CLOCK: a Clock segment with this body. -/
  | clock (body : List Byte)
  /-- OUTPUT: an Output segment with this body. -/
  | output (body : List Byte)
  /-- CONFIGURE: a Slide Control of operation CONFIGURE; `rest` follows the operation byte. -/
  | configure (rest : List Byte)
  /-- ARM: a Slide Control of operation ARM. -/
  | arm (rest : List Byte)
  /-- DISARM: a Slide Control of operation DISARM. -/
  | disarm (rest : List Byte)
  /-- START: a Slide Control of operation START. -/
  | slideStart (rest : List Byte)
  /-- STOP: a Slide Control of operation STOP. -/
  | slideStop (rest : List Byte)
  /-- PAUSE: a Slide Control of operation PAUSE. -/
  | slidePause (rest : List Byte)
  /-- RESUME: a Slide Control of operation RESUME. -/
  | slideResume (rest : List Byte)
  /-- NEXT: a Slide Control of operation NEXT. -/
  | slideNext (rest : List Byte)
  /-- PREV: a Slide Control of operation PREV. -/
  | slidePrev (rest : List Byte)
  /-- STATUS_REQUEST: a Status Request segment with this body. -/
  | statusRequest (body : List Byte)
  /-- ATTENTION_MASK: an Attention Mask segment with this body. -/
  | attentionMask (body : List Byte)
  /-- RESTART: a Restart segment with this body. -/
  | restart (body : List Byte)
  /-- ENGINE_FRAME_START: the composition engine takes a frame start. -/
  | engineFrameStart
  /-- TRANSITION_END: the transition of one context reaches step N + 1. -/
  | transitionEnd (c : Ctx)
  /-- STORE_FRAME_START: the object store takes a frame start. -/
  | storeFrameStart
  /-- PALETTE_FRAME_START: the palette unit takes a frame start. -/
  | paletteFrameStart
  /-- MIXER_FRAME_START: the line mixer takes a frame start. -/
  | mixerFrameStart
  /-- LINE: the line mixer takes one active line of input pixels. -/
  | line (pixels : List Pixel)
  /-- MIXER_FRAME_END: the line mixer takes a frame end. -/
  | mixerFrameEnd
  /-- STORE_FRAME_END: the object store takes a frame end. -/
  | storeFrameEnd
  /-- NAV_FRAME_END: the navigation unit takes a frame end. -/
  | navFrameEnd
  /-- ACTIVATION_EXPIRY: the activation hold of one context runs out. -/
  | activationExpiry (c : NavCtx)
  /-- PLAYHEAD_STEP: the remaining hold of one button's playhead runs out. -/
  | playheadStep (c : NavCtx) (button : Nat)
  /-- SEQUENCER_FRAME_END: the slide sequencer takes a frame end. -/
  | sequencerFrameEnd
  /-- DWELL_EXPIRY: a COUNTING dwell reaches 0. -/
  | dwellExpiry
  /-- SLIDE_READY: a READYING target is found ready. -/
  | slideReady
  /-- LATE_SLIDE: a READYING target's wait count reaches 300. -/
  | lateSlide
  /-- TIME_TRIGGER: an ARMED sequencer's TIME start source is due. -/
  | timeTrigger
  /-- READ_STROBE: one read strobe on the report port. -/
  | readStrobe
  /-- RESET_N_ASSERTED: the reset pin goes low. -/
  | resetNAsserted
  /-- RESET_N_RELEASED: the reset pin goes high. -/
  | resetNReleased
  deriving DecidableEq, Repr

end Sys2Proof
end

