-- ==== Sys2Proof/Machine/Types.lean ====
section
/-! DEFINITION. The records that the blocks of the P614 hold, block by block as the spec's chapters give them. Each
type's docstring names the rule that gives the record. Reset values stand in `Machine/State.lean`. -/

namespace Sys2Proof.Machine

open Sys2Proof

/-! ### Ids and small vocabularies -/

/-- An object id 0–511 (R23). -/
abbrev ObjId := Fin Config.numObjects
/-- A granule number 0–2047 (R19). -/
abbrev Granule := Fin Config.numGranules
/-- A page id 0–31 (R72). -/
abbrev PageId := Fin Config.numPages
/-- A palette id 0–7 (R55). -/
abbrev PaletteId := Fin Config.numPalettes

/-- A segment kind code of the table of R12. -/
inductive Kind where
  | setOpen | objectData | objectDrop | palette | page | buttons | animations | scroll | showPage | slideList
  | key | flags | clock | output | slideControl | statusRequest | attentionMask | restart
  deriving DecidableEq, Repr

/-- An object's depth: 2, 4 or 8 bits per pixel (R23). -/
inductive Depth where
  | d2 | d4 | d8
  deriving DecidableEq, Repr

/-- A fragment's position in its load (R39). -/
inductive Position where
  | first | middle | last | only
  deriving DecidableEq, Repr

/-- Why a load was abandoned (R30, R32). -/
inductive AbandonReason where
  | otherObject | superseded | damaged | dropped
  deriving DecidableEq, Repr

/-- What a schedule entry, a slide entry or an action says of its change of page (R81). A length of 0 is stored as CUT
(R82), so `n` is 1–255 in what the segments store. -/
inductive Transition where
  | cut
  | crossfade (n : Byte)
  | wipe (n : Byte)
  deriving DecidableEq, Repr

/-- The kind of a running transition (R80). -/
inductive FadeKind where
  | crossfade | wipe
  deriving DecidableEq, Repr

/-- Who wrote a schedule entry (R81). -/
inductive Origin where
  | segment | navigation | sequencer
  deriving DecidableEq, Repr

/-- Which limit of the segment queue an OVERRUN met (R10). -/
inductive Limit where
  | segments | bytes
  deriving DecidableEq, Repr

/-- What caused a RESTART-DONE (R173, R175). -/
inductive Cause where
  | pin | command
  deriving DecidableEq, Repr

/-- The source of a start trigger (R151). -/
inductive StartedBy where
  | command | button | time | flags
  deriving DecidableEq, Repr

/-- Why a run ended (R162). -/
inductive EndReason where
  | stop | drained | finish | empty
  deriving DecidableEq, Repr

/-- The keys (R131). -/
inductive Key where
  | up | down | left | right | ok | back | number | popup
  deriving DecidableEq, Repr

/-- The directions an arrow key follows (R137). -/
inductive Direction where
  | up | down | left | right
  deriving DecidableEq, Repr

/-- The nine Slide Control operations (R149). -/
inductive SlideOp where
  | configure | arm | disarm | start | stop | pause | resume | next | prev
  deriving DecidableEq, Repr

/-! ### The segment port (chapter 1) -/

/-- The checked fields of a segment header (R6). -/
structure Header where
  kind : Byte
  source : Byte
  length : Nat
  deriving DecidableEq, Repr

/-- The receiver's state with what it holds of the segment in reception (R1). `got` is in order of arrival. -/
inductive Receiver where
  | hunt
  | header (got : List Byte)
  | body (h : Header) (got : List Byte)
  | skip (h : Header) (counted : Nat)
  deriving DecidableEq, Repr

/-- A complete segment in the segment queue: its kind and its de-stuffed body (R8, R12). -/
structure Segment where
  kind : Kind
  body : List Byte
  deriving DecidableEq, Repr

/-- The segment port. `queue` holds the complete segments not yet taken, oldest first; while the decoder is busy its
head is the Object Data fragment in hand (R9, R14). The segment in reception is in `rx`. -/
structure Port where
  rx : Receiver
  ffCount : Fin 3
  queue : List Segment
  hold : Bool
  deriving DecidableEq, Repr

/-! ### Object memory and the object directory (chapter 2) -/

/-- Object memory: the bytes that differ from what an unlisted address reads as, by address (granule number × 4096 +
offset, R19), addresses strictly rising. -/
abbrev Memory := List Host.Cell

/-- One version of an object (R23). -/
structure Version where
  number : Byte
  width : Nat
  height : Nat
  depth : Depth
  fault : Bool
  chain : List Granule
  deriving DecidableEq, Repr

/-- A directory slot: the seven states of R23 with the versions each holds. -/
inductive Slot where
  | empty
  | loading (incoming : Version)
  | pending (incoming : Version)
  | ready (current : Version)
  | updating (current incoming : Version)
  | swapping (current incoming : Version)
  | dropping (current : Version)
  deriving DecidableEq, Repr

/-- The object store: the 512-slot directory and the free list, head first (R20, R23). -/
structure Store where
  slots : Vector Slot Config.numObjects
  free : List Granule
  deriving DecidableEq, Repr

/-! ### The object decoder (chapter 3) -/

/-- A code byte whose operands have not all been consumed (R40, R44). -/
inductive PendingCode where
  /-- a literal run with this many index bytes to come -/
  | literal (left : Nat)
  /-- a short repeat of this many pixels, its index byte to come -/
  | shortRepeat (count : Nat)
  /-- a long repeat with this high part, its count byte to come -/
  | longCount (high : Nat)
  /-- a long repeat of this many pixels, its index byte to come -/
  | longIndex (count : Nat)
  /-- copy rows, its count byte to come -/
  | copyRows
  deriving DecidableEq, Repr

/-- The load record (R40). Its stride is computed from width and depth (R22); its fault flag lives on the incoming
version (R23). -/
structure Load where
  id : ObjId
  version : Byte
  width : Nat
  height : Nat
  depth : Depth
  row : Nat
  col : Nat
  code : Option PendingCode
  ended : Bool
  deriving DecidableEq, Repr

/-- The decoder's four states and what it holds in each (R40). In DECODING `left` holds the code bytes of the fragment
in hand that are not yet consumed. -/
inductive Decoder where
  | idle
  | decoding (load : Load) (pos : Position) (left : List Byte)
  | await (load : Load)
  | skipping (k : ObjId)
  deriving DecidableEq, Repr

/-! ### Palettes (chapter 4) -/

/-- A palette entry (R55). -/
structure Entry where
  y : Byte
  cb : Byte
  cr : Byte
  a : Byte
  deriving DecidableEq, Repr

/-- A palette: 256 entries (R55). -/
abbrev Palette := Vector Entry Config.paletteSize

/-- The apply mode of a Palette segment (R57). -/
inductive ApplyMode where
  | hold | next | atTime | discard
  deriving DecidableEq, Repr

/-- The apply time of a SCHEDULED patch (R56). -/
inductive ApplyTime where
  | nextFrame
  | atTime (t : FrameCount)
  deriving DecidableEq, Repr

/-- The touched set: entries by index, indexes strictly rising (R56). -/
abbrev Touched := List (Nat × Entry)

/-- The palette patch (R56). -/
inductive Patch where
  | closed
  | collecting (p : PaletteId) (touched : Touched)
  | scheduled (p : PaletteId) (touched : Touched) (time : ApplyTime)
  deriving DecidableEq, Repr

/-- The palette unit (R55, R56). -/
structure PaletteUnit where
  live : Vector Palette Config.numPalettes
  patch : Patch
  deriving DecidableEq, Repr

/-! ### Pages, contexts and the schedule (chapter 5), with the button and animation tables (chapter 7) -/

/-- A placement's reduction k (R73). -/
inductive Reduction where
  | one | two | four
  deriving DecidableEq, Repr

/-- A placement's window, as stored (R73). -/
structure Window where
  wx : Half
  wy : Half
  ww : Half
  wh : Half
  deriving DecidableEq, Repr

/-- A placement (R73). -/
structure Placement where
  obj : ObjId
  x : Int
  y : Int
  palette : PaletteId
  opacity : Byte
  reduction : Reduction
  visible : Bool
  window : Option Window
  deriving DecidableEq, Repr

/-- The mode of a button's condition (R119). -/
inductive CondMode where
  | none | showIf | enableIf
  deriving DecidableEq, Repr

/-- A mask and compare pair tested against flags (R123, R146, R150). -/
structure MaskCompare where
  mask : Half
  compare : Half
  deriving DecidableEq, Repr

/-- A button visual (R119). An ANIMATION index at or beyond the animation count draws as KEEP (R120). -/
inductive Visual where
  | keep
  | object (id : ObjId)
  | animation (ix : Nat)
  deriving DecidableEq, Repr

/-- A button's action (R141). -/
inductive Action where
  | none
  | goto (page : PageId) (t : Transition)
  | replace (page : PageId) (t : Transition)
  | back (t : Transition)
  | close (t : Transition)
  | slidesStart (entry : Nat)
  | slidesStop
  | setFlags (set clear : Half)
  deriving DecidableEq, Repr

/-- A button (R119). -/
structure Button where
  placement : Nat
  number : Option Nat
  up : Option Nat
  down : Option Nat
  left : Option Nat
  right : Option Nat
  mode : CondMode
  cond : MaskCompare
  normal : Visual
  selected : Visual
  activated : Visual
  disabled : Visual
  auto : Bool
  action : Action
  notify : Option Half
  deriving DecidableEq, Repr

/-- An animation's mode (R120). -/
inductive AnimMode where
  | once | loop
  deriving DecidableEq, Repr

/-- An animation entry (R120). -/
structure AnimEntry where
  obj : Option ObjId
  hold : Nat
  deriving DecidableEq, Repr

/-- An animation (R120). -/
structure Animation where
  mode : AnimMode
  entries : List AnimEntry
  deriving DecidableEq, Repr

/-- A page's definition: what Page, Buttons and Animations segments define (R72). -/
structure PageDef where
  placements : List Placement
  defaultButton : Option Nat
  hold : Nat
  buttons : List Button
  animations : List Animation
  deriving DecidableEq, Repr

/-- A pending definition with its final mark (R76). -/
structure PendingDef where
  body : PageDef
  final : Bool
  deriving DecidableEq, Repr

/-- A page record (R72). -/
structure Page where
  defined : Bool
  cur : PageDef
  waiting : Option PendingDef
  deriving DecidableEq, Repr

/-- A display context's state (R80). -/
inductive CtxState where
  | empty
  | showing (p : PageId)
  | transition (incoming outgoing : Option PageId) (kind : FadeKind) (n j : Nat)
  deriving DecidableEq, Repr

/-- The three display contexts (R80). -/
structure Contexts where
  slide : CtxState
  menu : CtxState
  popup : CtxState
  deriving DecidableEq, Repr

/-- A show schedule entry (R81). -/
structure ShowEntry where
  ctx : Ctx
  page : Option PageId
  time : Option FrameCount
  trans : Transition
  origin : Origin
  restore : Option Nat
  late : Bool
  deriving DecidableEq, Repr

/-- A staged scroll (R78). -/
structure Scroll where
  page : PageId
  index : Nat
  wx : Half
  wy : Half
  deriving DecidableEq, Repr

/-- The composition engine (R67, R70, R72, R78, R80, R81, R90, R92). -/
structure Engine where
  fc : FrameCount
  pendingClock : Option FrameCount
  setId : Half
  popupPage : Option PageId
  pages : Vector Page Config.numPages
  contexts : Contexts
  schedule : List ShowEntry
  staged : List Scroll
  liveSet : List ObjId
  rasterW : Nat
  deriving DecidableEq, Repr

/-! ### The line mixer (chapter 6) -/

/-- The output mode (R95). -/
inductive OutMode where
  | pass | composed | fill
  deriving DecidableEq, Repr

/-- An output mode with its fill colour: what an Output segment carries (R99). -/
structure OutputSetting where
  mode : OutMode
  fill : Pixel
  deriving DecidableEq, Repr

/-- The raster state (R95). -/
inductive RasterState where
  | unknown | valid | invalid
  deriving DecidableEq, Repr

/-- The measurement of the frame in progress (R95). -/
structure OpenFrame where
  lines : Nat
  width : Option Nat
  deriving DecidableEq, Repr

/-- The line mixer (R95). `videoOut` is the line last delivered on the video output (R96). -/
structure Mixer where
  out : OutputSetting
  pendingOut : Option OutputSetting
  raster : RasterState
  width : Nat
  height : Nat
  frame : Option OpenFrame
  dropLines : Nat
  dropSpans : Nat
  overload : Bool
  videoOut : List Pixel
  deriving DecidableEq, Repr

/-! ### The navigation unit (chapter 7) -/

/-- A button's state (R124). -/
inductive ButtonState where
  | hidden | disabled | normal | selected | activating
  deriving DecidableEq, Repr

/-- A playhead: entry index and remaining hold (R126). `fresh` is the model's own mark "restarted earlier in this frame
end" (log entry 8). -/
structure Playhead where
  entry : Nat
  left : Nat
  fresh : Bool
  deriving DecidableEq, Repr

/-- One button of a navigation page: its state and its playhead (R126, R127). -/
structure ButtonNav where
  state : ButtonState
  head : Option Playhead
  deriving DecidableEq, Repr

/-- An activation in progress (R127). -/
structure Activation where
  button : Nat
  left : Nat
  deriving DecidableEq, Repr

/-- The navigation state of MENU or POPUP (R127). `buttons` is in id order; `stack` is bottom to top (R140). -/
structure NavState where
  page : Option PageId
  buttons : List ButtonNav
  selected : Option Nat
  activation : Option Activation
  stack : List (PageId × Option Nat)
  deriving DecidableEq, Repr

/-- An entry of the key queue (R131). -/
structure KeyEntry where
  key : Key
  number : Byte
  rep : Bool
  deriving DecidableEq, Repr

/-- The navigation unit (R116, R127, R131). `resting` is F. -/
structure Nav where
  flags : Half
  resting : Half
  flagsChanged : Bool
  redefined : Bool
  keys : List KeyEntry
  menu : NavState
  popup : NavState
  deriving DecidableEq, Repr

/-! ### The slide sequencer (chapter 8) -/

/-- A slide list entry (R146). -/
structure SlideEntry where
  page : PageId
  duration : Nat
  trans : Transition
  cue : Option Byte
  cond : MaskCompare
  deriving DecidableEq, Repr

/-- The start source kinds (R148). -/
inductive StartKind where
  | command | button | time | flags
  deriving DecidableEq, Repr

/-- The stop source kinds (R148). -/
inductive StopKind where
  | command | button | flags
  deriving DecidableEq, Repr

/-- The end modes (R148). -/
inductive EndMode where
  | once | rep | loop
  deriving DecidableEq, Repr

/-- The configuration (R148). T, masks and compares are present in every configuration. -/
structure SlideConfig where
  startKind : StartKind
  startTime : FrameCount
  startCond : MaskCompare
  stopKind : StopKind
  stopCond : MaskCompare
  drainCount : Nat
  endMode : EndMode
  deriving DecidableEq, Repr

/-- The run states (R145). -/
inductive RunState where
  | idle | armed | running | held | draining | ended
  deriving DecidableEq, Repr

/-- A target: its entry, whether its stage is READY, and its wait count (R145). -/
structure Target where
  entry : Nat
  ready : Bool
  wait : Nat
  deriving DecidableEq, Repr

/-- A placed entry with its page (R145). -/
structure Placed where
  entry : Nat
  page : PageId
  deriving DecidableEq, Repr

/-- The dwell (R145). -/
inductive Dwell where
  | absent
  | entering
  | counting (left : Nat)
  | still
  deriving DecidableEq, Repr

/-- The slide sequencer (R145). -/
structure Sequencer where
  list : List SlideEntry
  config : SlideConfig
  run : RunState
  shown : Option Nat
  target : Option Target
  placed : Option Placed
  dwell : Dwell
  drain : Nat
  flagsCopy : Half
  slidePage : Option PageId
  deriving DecidableEq, Repr

/-! ### The report unit (chapter 9) -/

/-- The seven report classes (R170). -/
inductive ReportClass where
  | system | segment | object | display | nav | slide | mix
  deriving DecidableEq, Repr

/-- What a STATUS part 1 carries (R172). -/
structure StatusOne where
  free : Nat
  slots : Nat
  setId : Half
  slide : Option PageId
  menu : Option PageId
  popup : Option PageId
  patch : Nat
  deriving DecidableEq, Repr

/-- What a STATUS part 2 carries (R172). -/
structure StatusTwo where
  run : RunState
  shown : Option Nat
  flags : Half
  segments : Nat
  bytes : Nat
  width : Nat
  height : Nat
  deriving DecidableEq, Repr

/-- The report kinds with their kind fields (11.10). -/
inductive ReportBody where
  | restartDone (cause : Cause) (mask : Byte)
  | statusOne (s : StatusOne)
  | statusTwo (s : StatusTwo)
  | framing (kind : Byte) (received : Nat)
  | truncated (kind : Byte) (received : Nat)
  | oversize (kind : Byte) (length : Nat)
  | overrun (kind : Byte) (received : Nat) (limit : Limit)
  | unknownKind (kind : Byte) (length : Nat)
  | malformed (kind : Byte) (length : Nat)
  | source (kind : Byte) (length : Nat)
  | ready (id : ObjId) (version : Byte) (fault : Bool)
  | noSpace (id : ObjId) (needed free : Nat)
  | abandoned (id : ObjId) (version : Byte) (reason : AbandonReason)
  | damaged (id : ObjId) (row : Nat)
  | strayFragment (id : ObjId) (pos : Position)
  | shown (ctx : Ctx) (page : Option PageId)
  | late (ctx : Ctx) (page : Option PageId) (lateness : Nat)
  | superseded (ctx : Ctx) (page : Option PageId) (origin : Origin)
  | scheduleFull (ctx : Ctx) (page : Option PageId) (origin : Origin)
  | undefinedPage (ctx : Ctx) (page : PageId)
  | pageBusy (ctx : Ctx) (page : PageId) (holder : Ctx)
  | patchBusy (requested tied : PaletteId)
  | patchApplied (p : PaletteId) (count : Nat)
  | action (page : Option PageId) (button : Nat) (code : Half)
  | flagsChanged (flags : Half)
  | keyDropped (key : Key) (number : Byte)
  | stackEmpty (ctx : Ctx) (page : Option PageId)
  | cue (entry : Nat) (cue : Byte)
  | started (entry : Nat) (by_ : StartedBy)
  | ended (reason : EndReason) (shown : Option Nat)
  | lateSlide (entry : Nat) (page : PageId)
  | emptyRun (entry : Option Nat) (count : Nat)
  | slideBusyShow
  | slideBusyList
  | slideBusyControl (op : SlideOp)
  | entrySkipped (entry : Nat) (page : PageId)
  | overload (lines spans : Nat)
  | rasterBad (w h : Nat)
  | rasterOk (w h : Nat)
  deriving DecidableEq, Repr

/-- A queued report: its lost flag, its FC and its content (R167). -/
structure Report where
  lost : Bool
  fc : FrameCount
  body : ReportBody
  deriving DecidableEq, Repr

/-- The report unit (R166), the ATTN pin (R170) and `port`, the byte last delivered on REP_D (R169). -/
structure ReportUnit where
  queue : List Report
  readPos : Nat
  lost : Bool
  mask : Byte
  attn : Bool
  port : Byte
  deriving DecidableEq, Repr

/-- The model's own field (log entry 5): which of the composition engine and the palette unit has taken the present
frame start while the other has not, so that both act on one FC value for it whichever comes first (R63, R67).
`paletteAhead` holds the value that this frame start gives, and whether a Clock has been taken since: that Clock came
after the frame start, so its value is for the following one (R68). -/
inductive StartSkew where
  | level
  | engineAhead
  | paletteAhead (given : FrameCount) (clockSince : Bool)
  deriving DecidableEq, Repr

end Sys2Proof.Machine
end

