-- ==== Sys2Proof/Machine/State.lean ====
section
/-! DEFINITION. The state of the P614, its reset value, and the reasons a step can stop. State is plain data and holds
every piece of state that the spec gives the part (INVENTORY.md, "State"), the queue of waiting commands, and one field
of the model's own (`skew`). -/

namespace Sys2Proof.Machine

open Sys2Proof

/-- The faults of a step: none. The spec gives the part no condition that stops it, object memory has no address that
a granule number and an offset cannot name (R19), and every command has an effect in every state, so no definition
raises a fault and the type has no constructor. Safe: a step never stops where the part goes on. -/
inductive Fault where
  deriving DecidableEq, Repr

/-- The refusals of a step. -/
inductive Refusal where
  /-- Raised by an arm of `exec` whose command has no meaning yet. No arm of this model raises it. Safe. -/
  | notModelled (mnemonic : String)
  deriving DecidableEq, Repr

/-- The state of the part. -/
structure State where
  /-- commands that wait, first in first out (the model's command queue) -/
  pending : List Instr
  /-- the RESET_N pin is low (R18, R174) -/
  resetLow : Bool
  /-- receiver, segment queue and HOLD (R1, R9, R11) -/
  port : Port
  /-- the object decoder (R40) -/
  decoder : Decoder
  /-- directory and free list (R20, R23) -/
  store : Store
  /-- object memory (R19) -/
  mem : Memory
  /-- live palettes and patch (R55, R56) -/
  palette : PaletteUnit
  /-- FC, set fields, pages, contexts, schedule, live reference set (R67, R70, R72, R80, R81, R90, R92) -/
  engine : Engine
  /-- output mode, raster, drop counters, video output (R95) -/
  mixer : Mixer
  /-- flags word, keys, navigation states (R116, R127, R131) -/
  nav : Nav
  /-- the slide sequencer (R145) -/
  seq : Sequencer
  /-- the report unit and ATTN (R166, R170) -/
  report : ReportUnit
  /-- the model's own: which block has taken the present frame start first (log entry 5) -/
  skew : StartSkew
  deriving DecidableEq, Repr

/-! ### Reset values, block by block -/

/-- R1, R9, R11: HUNT, FF count 0, empty queue; HOLD as given. -/
def Port.reset (hold : Bool) : Port := { rx := .hunt, ffCount := 0, queue := [], hold := hold }

/-- R20, R23: every slot EMPTY, the free list 0, 1, 2, … 2047. -/
def Store.reset : Store :=
  { slots := Vector.replicate Config.numObjects .empty, free := List.finRange Config.numGranules }

/-- R55: a transparent black. -/
def Entry.reset : Entry := { y := 16, cb := 128, cr := 128, a := 0 }

/-- R55, R56: transparent black everywhere, the patch CLOSED. -/
def PaletteUnit.reset : PaletteUnit :=
  { live := Vector.replicate Config.numPalettes (Vector.replicate Config.paletteSize Entry.reset), patch := .closed }

/-- R72: the definition an undefined page has. -/
def PageDef.blank : PageDef := { placements := [], defaultButton := none, hold := 0, buttons := [], animations := [] }

/-- R72: an undefined page. -/
def Page.blank : Page := { defined := false, cur := .blank, waiting := none }

/-- R80: every context EMPTY. -/
def Contexts.reset : Contexts := { slide := .empty, menu := .empty, popup := .empty }

/-- R67, R70, R72, R80, R81, R90, R92, R93. -/
def Engine.reset : Engine :=
  { fc := 0, pendingClock := none, setId := 0xFFFF, popupPage := none,
    pages := Vector.replicate Config.numPages .blank, contexts := .reset, schedule := [], staged := [], liveSet := [],
    rasterW := 0 }

/-- R95: PASS over (16, 128, 128), raster UNKNOWN. The line on the video output is not part of the reset. -/
def Mixer.reset (videoOut : List Pixel) : Mixer :=
  { out := { mode := .pass, fill := { y := 16, cb := 128, cr := 128 } }, pendingOut := none, raster := .unknown,
    width := 0, height := 0, frame := none, dropLines := 0, dropSpans := 0, overload := false, videoOut := videoOut }

/-- R127: an empty navigation state. -/
def NavState.reset : NavState := { page := none, buttons := [], selected := none, activation := none, stack := [] }

/-- R116, R127, R131, R144. -/
def Nav.reset : Nav :=
  { flags := 0, resting := 0, flagsChanged := false, redefined := false, keys := [], menu := .reset, popup := .reset }

/-- R145: start COMMAND, stop COMMAND, K = 0, ONCE. The T, mask and compare fields, which these sources do not read,
are 0 (log entry 4). -/
def SlideConfig.reset : SlideConfig :=
  { startKind := .command, startTime := 0, startCond := { mask := 0, compare := 0 }, stopKind := .command,
    stopCond := { mask := 0, compare := 0 }, drainCount := 0, endMode := .once }

/-- R145, R164. -/
def Sequencer.reset : Sequencer :=
  { list := [], config := .reset, run := .idle, shown := none, target := none, placed := none, dwell := .absent,
    drain := 0, flagsCopy := 0, slidePage := none }

/-- R166 and 11.3: SYSTEM, SEGMENT, OBJECT, NAV and SLIDE enabled. -/
def resetMask : Byte := 0x37

/-- R166, R174: the report unit while RESET_N is low: empty queue, ATTN released. -/
def ReportUnit.low (port : Byte) : ReportUnit :=
  { queue := [], readPos := 0, lost := false, mask := resetMask, attn := false, port := port }

/-- R166, R173, R175: the report unit after a reset: RESTART-DONE alone, ATTN asserted. -/
def ReportUnit.reset (cause : Cause) (port : Byte) : ReportUnit :=
  { queue := [{ lost := false, fc := 0, body := .restartDone cause resetMask }], readPos := 0, lost := false,
    mask := resetMask, attn := true, port := port }

/-- The part right after RESET_N has returned high (R175): every block in its reset state, HOLD released, and
RESTART-DONE (PIN) in the report queue. -/
def State.reset : State :=
  { pending := [], resetLow := false, port := Port.reset false, decoder := .idle, store := .reset, mem := [],
    palette := .reset, engine := .reset, mixer := Mixer.reset [], nav := .reset, seq := .reset,
    report := ReportUnit.reset .pin 0, skew := .level }

end Sys2Proof.Machine
end

