-- ==== Sys2Proof/Machine/Ops.lean ====
section
/-! DEFINITION. The shared operations: setting one block of the state, tables of fixed size, byte order, object memory
and its addressing through a chain, lists keyed by number. -/

namespace Sys2Proof.Machine

open Sys2Proof

/-! ### Setting one block -/

/-- The state with another segment port. -/
def State.setPort (s : State) (x : Port) : State := { s with port := x }
/-- The state with another decoder. -/
def State.setDecoder (s : State) (x : Decoder) : State := { s with decoder := x }
/-- The state with another object store. -/
def State.setStore (s : State) (x : Store) : State := { s with store := x }
/-- The state with other contents of object memory. -/
def State.setMem (s : State) (x : Memory) : State := { s with mem := x }
/-- The state with another palette unit. -/
def State.setPalette (s : State) (x : PaletteUnit) : State := { s with palette := x }
/-- The state with another composition engine. -/
def State.setEngine (s : State) (x : Engine) : State := { s with engine := x }
/-- The state with another mixer. -/
def State.setMixer (s : State) (x : Mixer) : State := { s with mixer := x }
/-- The state with another navigation unit. -/
def State.setNav (s : State) (x : Nav) : State := { s with nav := x }
/-- The state with another sequencer. -/
def State.setSeq (s : State) (x : Sequencer) : State := { s with seq := x }
/-- The state with another report unit. -/
def State.setReport (s : State) (x : ReportUnit) : State := { s with report := x }
/-- The state with another frame start skew (log entry 5). -/
def State.setSkew (s : State) (x : StartSkew) : State := { s with skew := x }

/-! ### Tables -/

/-- A table whose entry i is `f i` of the old entry. Kernel-reducible, unlike the library's own map. -/
def tableMap {α β : Type} {n : Nat} (f : Fin n → α → β) (v : Vector α n) : Vector β n :=
  ⟨⟨(List.finRange n).map fun i => f i v[i]⟩, by simp⟩

/-- What `f` gives for each entry of a table, joined in ascending order of index. -/
def tableJoin {α β : Type} {n : Nat} (f : Fin n → α → List β) (v : Vector α n) : List β :=
  (List.finRange n).flatMap fun i => f i v[i]

/-- The number of entries of a table that satisfy `p`. -/
def tableCount {α : Type} {n : Nat} (p : α → Bool) (v : Vector α n) : Nat :=
  ((List.finRange n).filter fun i => p v[i]).length

/-- A number below n as an index, if it is one. -/
def finOf? (n x : Nat) : Option (Fin n) := if h : x < n then some ⟨x, h⟩ else none

/-- A list with its element at place i changed to `f i` of it, places counted from `i`. -/
def mapAt {α β : Type} (f : Nat → α → β) : Nat → List α → List β
  | _, [] => []
  | i, x :: l => f i x :: mapAt f (i + 1) l

/-! ### Lists keyed by number, keys strictly rising -/

/-- The list with value v at key k: the old value is replaced, a new key takes its place in ascending order. -/
def putKey {α : Type} (k : Nat) (v : α) : List (Nat × α) → List (Nat × α)
  | [] => [(k, v)]
  | (a, x) :: m => if k < a then (k, v) :: (a, x) :: m else if k = a then (k, v) :: m else (a, x) :: putKey k v m

/-- The list without key k. -/
def dropKey {α : Type} (k : Nat) : List (Nat × α) → List (Nat × α)
  | [] => []
  | (a, x) :: m => if k = a then dropKey k m else (a, x) :: dropKey k m

/-- The value at key k. -/
def getKey {α : Type} (k : Nat) : List (Nat × α) → Option α
  | [] => none
  | (a, x) :: m => if k = a then some x else getKey k m

/-! ### Byte order -/

/-- A number as one byte of a report. -/
def byteOf (n : Nat) : Byte := BitVec.ofNat 8 n

/-- A number as a two-byte big-endian field (chapter 11). -/
def bytes16 (n : Nat) : List Byte := [byteOf (n / 256), byteOf n]

/-- A 32-bit value as a four-byte big-endian field (chapter 11). -/
def bytes32 (w : BitVec 32) : List Byte :=
  [w.extractLsb' 24 8, w.extractLsb' 16 8, w.extractLsb' 8 8, w.extractLsb' 0 8]

/-! ### Object memory -/

/-- What an address that no load has written reads as: 0x00. DESIGN CHOICE (log entry 2): the spec gives no contents
of the DRAM after power-up. Unsafe, but no byte is drawn before a load has written it (R19, R22). -/
def Memory.unlisted : Byte := 0

/-- The byte at an address. -/
def Memory.read (m : Memory) (a : Nat) : Byte := (getKey a m).getD Memory.unlisted

/-- Memory with byte b at address a, in canonical form: the value an unlisted address reads as is not listed. -/
def Memory.write (m : Memory) (a : Nat) (b : Byte) : Memory :=
  if b = Memory.unlisted then dropKey a m else putKey a b m

/-- The canonical form: addresses strictly rising and below 8,388,608 (R19), no value an unlisted address reads as. -/
abbrev Memory.wf (m : Memory) : Prop :=
  (m.map Prod.fst).Pairwise (· < ·) ∧
    ∀ c ∈ m, c.2 ≠ Memory.unlisted ∧ c.1 < Config.numGranules * Config.granuleBytes

/-- The address of byte offset b of a version with this chain (R21); none beyond the chain. -/
def chainAddr (chain : List Granule) (b : Nat) : Option Nat :=
  chain[b / Config.granuleBytes]?.map fun g => g.val * Config.granuleBytes + b % Config.granuleBytes

/-- The byte at offset b of a chain. An offset beyond the chain, which R22 rules out, reads as an unlisted address
does. -/
def chainRead (m : Memory) (chain : List Granule) (b : Nat) : Byte :=
  match chainAddr chain b with
  | some a => m.read a
  | none => Memory.unlisted

/-- Memory with byte x at offset b of a chain. An offset beyond the chain, which R38 rules out, writes nothing. -/
def chainWrite (m : Memory) (chain : List Granule) (b : Nat) (x : Byte) : Memory :=
  match chainAddr chain b with
  | some a => m.write a x
  | none => m

/-! ### Contexts and page records -/

/-- One display context. -/
def Contexts.get (c : Contexts) : Ctx → CtxState
  | .slide => c.slide
  | .menu => c.menu
  | .popup => c.popup

/-- The contexts with one replaced. -/
def Contexts.set (c : Contexts) (x : CtxState) : Ctx → Contexts
  | .slide => { c with slide := x }
  | .menu => { c with menu := x }
  | .popup => { c with popup := x }

/-- The page record of a page (R72). -/
def Engine.page (e : Engine) (p : PageId) : Page := e.pages[p]

/-- The engine with one page record replaced. -/
def Engine.setPage (e : Engine) (p : PageId) (x : Page) : Engine := { e with pages := e.pages.set p.val x p.isLt }

/-- The engine with one display context replaced. -/
def Engine.setCtx (e : Engine) (c : Ctx) (x : CtxState) : Engine := { e with contexts := e.contexts.set x c }

/-- The display context that a navigation state belongs to. -/
def ctxOf : NavCtx → Ctx
  | .menu => .menu
  | .popup => .popup

/-- One navigation state (R127). -/
def Nav.get (n : Nav) : NavCtx → NavState
  | .menu => n.menu
  | .popup => n.popup

/-- The navigation unit with one navigation state replaced. -/
def Nav.set (n : Nav) (x : NavState) : NavCtx → Nav
  | .menu => { n with menu := x }
  | .popup => { n with popup := x }

/-- The state with one navigation state replaced. -/
def State.setNavState (s : State) (c : NavCtx) (x : NavState) : State := s.setNav (s.nav.set x c)

/-- The slot of an object id (R23). -/
def Store.slot (st : Store) (k : ObjId) : Slot := st.slots[k]

/-- The store with one slot replaced. -/
def Store.setSlot (st : Store) (k : ObjId) (x : Slot) : Store := { st with slots := st.slots.set k.val x k.isLt }

/-- The store with a chain appended whole to the tail of the free list (R20). -/
def Store.release (st : Store) (chain : List Granule) : Store := { st with free := st.free ++ chain }

end Sys2Proof.Machine
end

