-- ==== Sys2Proof/Machine/Flags.lean ====
section
/-! DEFINITION. The tests and computed levels of the spec: the due rule, conditions over flags words, HOLD, ATTN, the
raster state, saturation and clamping, the fade, the wipe boundary, the effective alpha and the blend. -/

namespace Sys2Proof.Machine

open Sys2Proof

/-! ### Time -/

/-- The lateness of T against FC: (FC − T) mod 2^32 (R69). -/
def lateness (fc t : FrameCount) : Nat := (fc - t).toNat

/-- T is due: (FC − T) mod 2^32 < 2^31 (R69). -/
def isDue (fc t : FrameCount) : Bool := lateness fc t < 2 ^ 31

/-- The FC value that a frame start which no block has yet taken will give (R67). -/
def Engine.nextFc (e : Engine) : FrameCount := e.pendingClock.getD (e.fc + 1)

/-! ### One FC value for each frame start (log entry 5) -/

/-- The FC value that the present frame start gives, as the palette unit takes it (R63): the engine's, once the engine
has taken this frame start; the one given before, if the palette unit has taken it already; else the engine's next. -/
def State.startFc (s : State) : FrameCount :=
  match s.skew with
  | .engineAhead => s.engine.fc
  | .level => s.engine.nextFc
  | .paletteAhead given _ => given

/-- The FC value that the present frame start gives, as the composition engine takes it (R67). -/
def State.engineStartFc (s : State) : FrameCount :=
  match s.skew with
  | .paletteAhead given _ => given
  | .level | .engineAhead => s.engine.nextFc

/-- The pending clock value that the engine's frame start leaves: none, or the value of a Clock taken after this frame
start had begun (R68). -/
def State.clockLeft (s : State) : Option FrameCount :=
  match s.skew with
  | .paletteAhead _ true => s.engine.pendingClock
  | .paletteAhead _ false | .level | .engineAhead => none

/-- The skew after the palette unit has taken a frame start that gives `fc`. -/
def StartSkew.paletteTook (fc : FrameCount) : StartSkew → StartSkew
  | .engineAhead => .level
  | .level => .paletteAhead fc false
  | .paletteAhead given c => .paletteAhead given c

/-- The skew after the composition engine has taken a frame start. -/
def StartSkew.engineTook : StartSkew → StartSkew
  | .paletteAhead _ _ => .level
  | .level | .engineAhead => .engineAhead

/-- The skew after a Clock has been taken (R68). -/
def StartSkew.clockTook : StartSkew → StartSkew
  | .paletteAhead given _ => .paletteAhead given true
  | .level => .level
  | .engineAhead => .engineAhead

/-! ### Conditions -/

/-- Flags ANDed with the mask equal the compare (R123, R146, R150). -/
def MaskCompare.holds (m : MaskCompare) (flags : Half) : Bool := flags &&& m.mask == m.compare

/-- A button's condition against a flags word (R123). -/
def Button.condHolds (b : Button) (flags : Half) : Bool :=
  match b.mode with
  | .none => true
  | .showIf | .enableIf => b.cond.holds flags

/-- The flags word after a clear mask and then a set mask (R117). -/
def applyMasks (flags set clear : Half) : Half := (flags &&& ~~~clear) ||| set

/-! ### HOLD -/

/-- Segments in the queue, the one in reception counted (R9). -/
def Port.segTotal (p : Port) : Nat :=
  p.queue.length + (match p.rx with | .header _ | .body _ _ => 1 | .hunt | .skip _ _ => 0)

/-- Body bytes in the queue, those of the segment in reception counted (R9). -/
def Port.byteTotal (p : Port) : Nat :=
  (p.queue.map fun g => g.body.length).sum + (match p.rx with | .body _ got => got.length | _ => 0)

/-- HOLD's next level from the totals, with hysteresis (R11). -/
def holdLevel (segs bytes : Nat) (hold : Bool) : Bool :=
  if bytes ≥ 12288 ∨ segs ≥ 28 then true else if bytes ≤ 8192 ∧ segs ≤ 20 then false else hold

/-- HOLD is tested (R11). -/
def Port.testHold (p : Port) : Port := { p with hold := holdLevel p.segTotal p.byteTotal p.hold }

/-! ### Raster -/

/-- The measured raster state: VALID when W lies in 320–1920 and H in 240–1080 (R97). -/
def rasterOf (w h : Nat) : RasterState :=
  if 320 ≤ w ∧ w ≤ 1920 ∧ 240 ≤ h ∧ h ≤ 1080 then .valid else .invalid

/-- A count that stops at 65535 (R97, R111). -/
def stop16 (n : Nat) : Nat := min n 65535

/-! ### Clamping -/

/-- A component clamped into lo..hi (R58, R99). -/
def clampByte (lo hi b : Byte) : Byte := if b < lo then lo else if hi < b then hi else b

/-- A colour clamped into the legal range (R58, R99). -/
def clampPixel (p : Pixel) : Pixel :=
  { y := clampByte 16 235 p.y, cb := clampByte 16 240 p.cb, cr := clampByte 16 240 p.cr }

/-- A coordinate saturated to −4096..4095 (R73). -/
def saturate (x : Int) : Int := max (-4096) (min 4095 x)

/-! ### Transitions -/

/-- The length of a transition, 0 for CUT (R81). -/
def Transition.length : Transition → Nat
  | .cut => 0
  | .crossfade n | .wipe n => n.toNat

/-- The kind of a running transition (R80). -/
def Transition.fadeKind : Transition → FadeKind
  | .wipe _ => .wipe
  | .cut | .crossfade _ => .crossfade

/-- g(j) = floor((255 × j + floor(N / 2)) / N) (R91). -/
def crossfadeStep (n j : Nat) : Nat := (255 * j + n / 2) / n

/-- b = floor(W × j / N) (R92). -/
def wipeBoundary (w n j : Nat) : Nat := w * j / n

/-! ### Blending -/

/-- The effective alpha (R109). -/
def effectiveAlpha (a o f : Nat) : Nat := (a * o * f + 32512) / 65025

/-- One blended component (R110). -/
def blendComponent (alpha p c : Nat) : Nat := (alpha * p + (255 - alpha) * c + 127) / 255

/-- A palette colour blended over the value beneath (R110). -/
def blendPixel (alpha : Nat) (p : Entry) (c : Pixel) : Pixel :=
  { y := byteOf (blendComponent alpha p.y.toNat c.y.toNat),
    cb := byteOf (blendComponent alpha p.cb.toNat c.cb.toNat),
    cr := byteOf (blendComponent alpha p.cr.toNat c.cr.toNat) }

/-! ### Layout arithmetic -/

/-- Bits per pixel (R23). -/
def Depth.bits : Depth → Nat
  | .d2 => 2
  | .d4 => 4
  | .d8 => 8

/-- Row stride in bytes: 4 × ceil(w × d / 32) (R22). -/
def strideOf (w : Nat) (d : Depth) : Nat := 4 * ((w * d.bits + 31) / 32)

/-- Object bytes: stride × h (R22). -/
def objectBytes (w h : Nat) (d : Depth) : Nat := strideOf w d * h

/-- Granules needed: ceil(object bytes / 4096) (R22). -/
def granulesNeeded (w h : Nat) (d : Depth) : Nat :=
  (objectBytes w h d + (Config.granuleBytes - 1)) / Config.granuleBytes

/-- The byte offset that holds pixel (u, v) (R22). -/
def pixelOffset (w : Nat) (d : Depth) (u v : Nat) : Nat := v * strideOf w d + u * d.bits / 8

/-- How far pixel u lies from the low end of its byte: the leftmost pixel has the most significant bits (R22). -/
def pixelShift (d : Depth) (u : Nat) : Nat := 8 - d.bits * (u % (8 / d.bits) + 1)

/-- The index bits of a depth: 2^d − 1. -/
def Depth.mask : Depth → Byte
  | .d2 => 3
  | .d4 => 15
  | .d8 => 255

/-- Pixel u's index in its byte (R104). -/
def indexIn (d : Depth) (u : Nat) (b : Byte) : Byte := (b >>> pixelShift d u) &&& d.mask

/-- The byte with pixel u's index replaced (R22, R45). -/
def withIndex (d : Depth) (u : Nat) (ix b : Byte) : Byte :=
  (b &&& ~~~(d.mask <<< pixelShift d u)) ||| ((ix &&& d.mask) <<< pixelShift d u)

end Sys2Proof.Machine
end

