-- ==== Sys2Proof/Machine/Reports.lean ====
section
/-! DEFINITION. The report unit (chapter 9): the classes and byte layouts of the reports, the report queue, ATTN and the
report port. -/

namespace Sys2Proof.Machine

open Sys2Proof

/-! ### Codes (11.2, 11.10) -/

/-- The code of a context (11.2). -/
def ctxCode : Ctx → Byte
  | .slide => 0
  | .menu => 1
  | .popup => 2

/-- The code of a schedule origin (11.2). -/
def Origin.code : Origin → Byte
  | .segment => 0
  | .navigation => 1
  | .sequencer => 2

/-- The code of a fragment position (11.2). -/
def Position.code : Position → Byte
  | .first => 0
  | .middle => 1
  | .last => 2
  | .only => 3

/-- The code of a key (11.2). -/
def Key.code : Key → Byte
  | .up => 0
  | .down => 1
  | .left => 2
  | .right => 3
  | .ok => 4
  | .back => 5
  | .number => 6
  | .popup => 7

/-- The code of a report class (11.2). -/
def ReportClass.code : ReportClass → Nat
  | .system => 0
  | .segment => 1
  | .object => 2
  | .display => 3
  | .nav => 4
  | .slide => 5
  | .mix => 6

/-- The code of an abandonment reason (11.10). -/
def AbandonReason.code : AbandonReason → Byte
  | .otherObject => 0
  | .superseded => 1
  | .damaged => 2
  | .dropped => 3

/-- The code of a queue limit (11.10). -/
def Limit.code : Limit → Byte
  | .segments => 0
  | .bytes => 1

/-- The code of a RESTART-DONE cause (11.10). -/
def Cause.code : Cause → Byte
  | .pin => 0
  | .command => 1

/-- The code of a start trigger's source (11.10). -/
def StartedBy.code : StartedBy → Byte
  | .command => 0
  | .button => 1
  | .time => 2
  | .flags => 3

/-- The code of an end reason (11.10). -/
def EndReason.code : EndReason → Byte
  | .stop => 0
  | .drained => 1
  | .finish => 2
  | .empty => 3

/-- The code of a run state (11.10, STATUS part 2). -/
def RunState.code : RunState → Byte
  | .idle => 0
  | .armed => 1
  | .running => 2
  | .held => 3
  | .draining => 4
  | .ended => 5

/-- The code of a Slide Control operation (11.3). -/
def SlideOp.code : SlideOp → Byte
  | .configure => 0
  | .arm => 1
  | .disarm => 2
  | .start => 3
  | .stop => 4
  | .pause => 5
  | .resume => 6
  | .next => 7
  | .prev => 8

/-- A one-byte page field: 0xFF for none (11.10). -/
def pageByte : Option PageId → Byte
  | some p => byteOf p.val
  | none => 0xFF

/-- A one-byte entry field: 0xFF for none (11.10). -/
def entryByte : Option Nat → Byte
  | some e => byteOf e
  | none => 0xFF

/-- A flag byte (11.2). -/
def flagByte (b : Bool) : Byte := if b then 1 else 0

/-! ### Class, kind code and kind fields of each report (R170, 11.10) -/

/-- The class of a report kind (R170). -/
def ReportBody.cls : ReportBody → ReportClass
  | .restartDone _ _ | .statusOne _ | .statusTwo _ => .system
  | .framing _ _ | .truncated _ _ | .oversize _ _ | .overrun _ _ _ | .unknownKind _ _ | .malformed _ _
  | .source _ _ => .segment
  | .ready _ _ _ | .noSpace _ _ _ | .abandoned _ _ _ | .damaged _ _ | .strayFragment _ _ => .object
  | .shown _ _ | .late _ _ _ | .superseded _ _ _ | .scheduleFull _ _ _ | .undefinedPage _ _ | .pageBusy _ _ _
  | .patchBusy _ _ | .patchApplied _ _ => .display
  | .action _ _ _ | .flagsChanged _ | .keyDropped _ _ | .stackEmpty _ _ => .nav
  | .cue _ _ | .started _ _ | .ended _ _ | .lateSlide _ _ | .emptyRun _ _ | .slideBusyShow | .slideBusyList
  | .slideBusyControl _ | .entrySkipped _ _ => .slide
  | .overload _ _ | .rasterBad _ _ | .rasterOk _ _ => .mix

/-- The kind code of a report (11.10). -/
def ReportBody.code : ReportBody → Byte
  | .restartDone _ _ => 0x01
  | .statusOne _ => 0x02
  | .statusTwo _ => 0x02
  | .framing _ _ => 0x10
  | .truncated _ _ => 0x11
  | .oversize _ _ => 0x12
  | .overrun _ _ _ => 0x13
  | .unknownKind _ _ => 0x14
  | .malformed _ _ => 0x15
  | .source _ _ => 0x16
  | .ready _ _ _ => 0x20
  | .noSpace _ _ _ => 0x21
  | .abandoned _ _ _ => 0x22
  | .damaged _ _ => 0x23
  | .strayFragment _ _ => 0x24
  | .shown _ _ => 0x30
  | .late _ _ _ => 0x31
  | .superseded _ _ _ => 0x32
  | .scheduleFull _ _ _ => 0x33
  | .undefinedPage _ _ => 0x34
  | .pageBusy _ _ _ => 0x35
  | .patchBusy _ _ => 0x36
  | .patchApplied _ _ => 0x37
  | .action _ _ _ => 0x40
  | .flagsChanged _ => 0x41
  | .keyDropped _ _ => 0x42
  | .stackEmpty _ _ => 0x43
  | .cue _ _ => 0x50
  | .started _ _ => 0x51
  | .ended _ _ => 0x52
  | .lateSlide _ _ => 0x53
  | .emptyRun _ _ => 0x54
  | .slideBusyShow => 0x55
  | .slideBusyList => 0x55
  | .slideBusyControl _ => 0x55
  | .entrySkipped _ _ => 0x56
  | .overload _ _ => 0x60
  | .rasterBad _ _ => 0x61
  | .rasterOk _ _ => 0x62

/-- The kind fields of a report (11.10). -/
def ReportBody.fields : ReportBody → List Byte
  | .restartDone c m => [c.code, m]
  | .statusOne s =>
    byteOf 1 :: bytes16 s.free ++ bytes16 s.slots ++ bytes16 s.setId.toNat ++
      [pageByte s.slide, pageByte s.menu, pageByte s.popup, byteOf s.patch]
  | .statusTwo s =>
    [byteOf 2, s.run.code, entryByte s.shown] ++ bytes16 s.flags.toNat ++ [byteOf s.segments] ++ bytes16 s.bytes ++
      bytes16 s.width ++ bytes16 s.height
  | .framing k n | .truncated k n | .oversize k n | .unknownKind k n | .malformed k n | .source k n => k :: bytes16 n
  | .overrun k n l => k :: bytes16 n ++ [l.code]
  | .ready k v f => bytes16 k.val ++ [v, flagByte f]
  | .noSpace k g n => bytes16 k.val ++ bytes16 g ++ bytes16 n
  | .abandoned k v r => bytes16 k.val ++ [v, r.code]
  | .damaged k r => bytes16 k.val ++ bytes16 r
  | .strayFragment k p => bytes16 k.val ++ [p.code]
  | .shown c p => [ctxCode c, pageByte p]
  | .late c p n => [ctxCode c, pageByte p] ++ bytes16 n
  | .superseded c p o | .scheduleFull c p o => [ctxCode c, pageByte p, o.code]
  | .undefinedPage c p => [ctxCode c, pageByte (some p)]
  | .pageBusy c p h => [ctxCode c, pageByte (some p), ctxCode h]
  | .patchBusy q p => [byteOf q.val, byteOf p.val]
  | .patchApplied p n => byteOf p.val :: bytes16 n
  | .action p b n => [pageByte p, byteOf b] ++ bytes16 n.toNat
  | .flagsChanged f => bytes16 f.toNat
  | .keyDropped k n => [k.code, n]
  | .stackEmpty c p => [ctxCode c, pageByte p]
  | .cue e c => [byteOf e, c]
  | .started e b => [byteOf e, b.code]
  | .ended r e => [r.code, entryByte e]
  | .lateSlide e p | .entrySkipped e p => [byteOf e, pageByte (some p)]
  | .emptyRun e n => [entryByte e, byteOf n]
  | .slideBusyShow => [0x18, 0xFF]
  | .slideBusyList => [0x19, 0xFF]
  | .slideBusyControl op => [0x24, op.code]
  | .overload a b | .rasterBad a b | .rasterOk a b => bytes16 a ++ bytes16 b

/-- The length byte L: class, kind and FC take 6 bytes, the kind fields the rest (R167). -/
def Report.len (r : Report) : Nat := 6 + r.body.fields.length

/-- A report as the report port delivers it (11.9). -/
def Report.bytes (r : Report) : List Byte :=
  [byteOf r.len, byteOf (r.body.cls.code + (if r.lost then 128 else 0)), r.body.code] ++ bytes32 r.fc ++ r.body.fields

/-! ### The queue and ATTN -/

/-- The class of a report is enabled in the attention mask (R170, 11.3). -/
def enabledIn (mask : Byte) (r : Report) : Bool := mask.getLsbD r.body.cls.code

/-- ATTN is tested against the queue and the mask (R170). -/
def ReportUnit.testAttn (u : ReportUnit) : ReportUnit := { u with attn := u.queue.any (enabledIn u.mask) }

/-- A report created at a given FC enters the queue, or is discarded when it holds 16 (R168). -/
def ReportUnit.enqueue (u : ReportUnit) (fc : FrameCount) (b : ReportBody) : ReportUnit :=
  if u.queue.length < Config.maxReports then
    ReportUnit.testAttn { u with queue := u.queue ++ [{ lost := u.lost, fc := fc, body := b }], lost := false }
  else { u with lost := true }

/-- A block raises a report; its FC is that of the composition engine at the report's creation (R167). DESIGN CHOICE (log
entry 31): between a frame start's PALETTE_FRAME_START and its ENGINE_FRAME_START this is still the engine's old value,
although R167 also speaks of the value of the most recent frame start. -/
def State.raise (s : State) (b : ReportBody) : State := s.setReport (s.report.enqueue s.engine.fc b)

/-- A block raises a report at a given FC. -/
def State.raiseAt (s : State) (fc : FrameCount) (b : ReportBody) : State := s.setReport (s.report.enqueue fc b)

/-- A read strobe (R169): the next byte of the head report, which leaves at its last byte; 0x00 on an empty queue. -/
def ReportUnit.read (u : ReportUnit) : ReportUnit :=
  match u.queue with
  | [] => { u with port := 0 }
  | r :: rest =>
    if r.len ≤ u.readPos then
      ReportUnit.testAttn { u with queue := rest, readPos := 0, port := r.bytes.getD u.readPos 0 }
    else { u with readPos := u.readPos + 1, port := r.bytes.getD u.readPos 0 }

end Sys2Proof.Machine
end

