-- ==== Sys2Proof/Machine/Operands.lean ====
section
/-! DEFINITION. The operand forms: the kind table, the body of every segment kind with its field checks (chapter 11 and
the rules cited), and the body that each segment command stands for. A reader answers `none` where the body fails its
checks (MALFORMED, R15). -/

namespace Sys2Proof.Machine

open Sys2Proof

/-! ### Fields -/

/-- The byte at an offset. Readers test the length first. -/
def at8 (l : List Byte) (i : Nat) : Byte := l.getD i 0

/-- The big-endian 16-bit field at an offset. -/
def at16 (l : List Byte) (i : Nat) : Half := at8 l i ++ at8 l (i + 1)

/-- The big-endian 32-bit field at an offset. -/
def at32 (l : List Byte) (i : Nat) : BitVec 32 := at16 l i ++ at16 l (i + 2)

/-- A flag byte: 0 or 1 (11.2). -/
def readFlag (b : Byte) : Option Bool := if b = 0 then some false else if b = 1 then some true else none

/-- A page byte: 0–31, or 0xFF for none. -/
def readPageOrNone (b : Byte) : Option (Option PageId) :=
  if b = 0xFF then some none else (finOf? Config.numPages b.toNat).map some

/-- A byte-wide id field in which 0xFF means none. -/
def noneIfFF (b : Byte) : Option Nat := if b = 0xFF then none else some b.toNat

/-- A context code (11.2). -/
def readCtx (b : Byte) : Option Ctx :=
  match b.toNat with
  | 0 => some .slide
  | 1 => some .menu
  | 2 => some .popup
  | _ => none

/-- A transition kind code with its length byte; a length of 0 is stored as CUT (11.2, R82). -/
def readTransition (kind n : Byte) : Option Transition :=
  match kind.toNat with
  | 0 => some .cut
  | 1 => some (if n = 0 then .cut else .crossfade n)
  | 2 => some (if n = 0 then .cut else .wipe n)
  | _ => none

/-- A depth field (R39). -/
def readDepth (b : Byte) : Option Depth :=
  match b.toNat with
  | 2 => some .d2
  | 4 => some .d4
  | 8 => some .d8
  | _ => none

/-- The first `n` records of `size` bytes each. -/
def records (size : Nat) : Nat → List Byte → List (List Byte)
  | 0, _ => []
  | n + 1, l => l.take size :: records size n (l.drop size)

/-- Every element present, or none. -/
def allSome {α : Type} : List (Option α) → Option (List α)
  | [] => some []
  | none :: _ => none
  | some x :: l => (allSome l).map (x :: ·)

/-! ### Kinds (R12) -/

/-- The code of a kind. -/
def Kind.code : Kind → Byte
  | .setOpen => 0x10
  | .objectData => 0x11
  | .objectDrop => 0x12
  | .palette => 0x13
  | .page => 0x14
  | .buttons => 0x15
  | .animations => 0x16
  | .scroll => 0x17
  | .showPage => 0x18
  | .slideList => 0x19
  | .key => 0x20
  | .flags => 0x21
  | .clock => 0x22
  | .output => 0x23
  | .slideControl => 0x24
  | .statusRequest => 0x25
  | .attentionMask => 0x26
  | .restart => 0x27

/-- The kind of a code; none for an unknown code. -/
def kindOf (b : Byte) : Option Kind :=
  match b.toNat with
  | 0x10 => some .setOpen
  | 0x11 => some .objectData
  | 0x12 => some .objectDrop
  | 0x13 => some .palette
  | 0x14 => some .page
  | 0x15 => some .buttons
  | 0x16 => some .animations
  | 0x17 => some .scroll
  | 0x18 => some .showPage
  | 0x19 => some .slideList
  | 0x20 => some .key
  | 0x21 => some .flags
  | 0x22 => some .clock
  | 0x23 => some .output
  | 0x24 => some .slideControl
  | 0x25 => some .statusRequest
  | 0x26 => some .attentionMask
  | 0x27 => some .restart
  | _ => none

/-- The express kinds, which are also the player-only kinds (R12). -/
def Kind.express : Kind → Bool
  | .key | .flags | .clock | .output | .slideControl | .statusRequest | .attentionMask | .restart => true
  | .setOpen | .objectData | .objectDrop | .palette | .page | .buttons | .animations | .scroll | .showPage
  | .slideList => false

/-! ### Set Open, Object Data, Object Drop -/

/-- Set Open: set id and popup page (R70). -/
def readSetOpen (b : List Byte) : Option (Half × Option PageId) :=
  if b.length = 3 then (readPageOrNone (at8 b 2)).map fun p => (at16 b 0, p) else none

/-- A fragment that has passed R39: one that begins a load, or one that continues it. -/
inductive Fragment where
  | opening (k : ObjId) (only : Bool) (v : Byte) (w h : Nat) (d : Depth) (code : List Byte)
  | following (k : ObjId) (last : Bool) (code : List Byte)
  deriving DecidableEq, Repr

/-- The head and code bytes of a FIRST or ONLY (R39, 11.4). -/
def readOpening (k : ObjId) (only : Bool) (b : List Byte) : Option Fragment :=
  if 9 ≤ b.length then
    let w := (at16 b 4).toNat
    let h := (at16 b 6).toNat
    if 1 ≤ w ∧ w ≤ 1920 ∧ 1 ≤ h ∧ h ≤ 1080 then
      (readDepth (at8 b 8)).map fun d => .opening k only (at8 b 3) w h d (b.drop 9)
    else none
  else none

/-- Object Data (R39, 11.4). -/
def readFragment (b : List Byte) : Option Fragment :=
  if 3 ≤ b.length then
    match finOf? Config.numObjects (at16 b 0).toNat with
    | none => none
    | some k =>
      match (at8 b 2).toNat with
      | 0 => readOpening k false b
      | 1 => some (.following k false (b.drop 3))
      | 2 => some (.following k true (b.drop 3))
      | 3 => readOpening k true b
      | _ => none
  else none

/-- Object Drop (R32). -/
def readDrop (b : List Byte) : Option ObjId :=
  if b.length = 2 then finOf? Config.numObjects (at16 b 0).toNat else none

/-! ### Palette (R57, 11.3) -/

/-- An accepted Palette body. -/
structure PaletteSegment where
  palette : PaletteId
  mode : ApplyMode
  time : FrameCount
  entries : List (Nat × Entry)
  deriving DecidableEq, Repr

/-- The apply mode field: bits 6–4 of the control byte. -/
def readMode (ctrl : Byte) : Option ApplyMode :=
  match (ctrl.toNat / 16) % 8 with
  | 0 => some .hold
  | 1 => some .next
  | 2 => some .atTime
  | 3 => some .discard
  | _ => none

/-- The code of an apply mode. -/
def ApplyMode.code : ApplyMode → BitVec 3
  | .hold => 0
  | .next => 1
  | .atTime => 2
  | .discard => 3

/-- One entry of the body: its index, and its components clamped (R58). -/
def readEntry (r : List Byte) : Nat × Entry :=
  ((at8 r 0).toNat,
    { y := clampByte 16 235 (at8 r 1), cb := clampByte 16 240 (at8 r 2), cr := clampByte 16 240 (at8 r 3),
      a := at8 r 4 })

/-- Palette (R57). -/
def readPalette (b : List Byte) : Option PaletteSegment :=
  let ctrl := at8 b 0
  let count := (ctrl.toNat / 128) * 256 + (at8 b 1).toNat
  if b.length = 6 + 5 * count ∧ count ≤ 256 then
    match finOf? Config.numPalettes (ctrl.toNat % 16), readMode ctrl with
    | some p, some m =>
      some { palette := p, mode := m, time := at32 b 2, entries := (records 5 count (b.drop 6)).map readEntry }
    | _, _ => none
  else none

/-! ### Page, Scroll, Show -/

/-- A reduction field (R73). -/
def readReduction (b : Byte) : Option Reduction :=
  match b.toNat with
  | 1 => some .one
  | 2 => some .two
  | 4 => some .four
  | _ => none

/-- A placement record (R73, 11.5). -/
def readPlacement (r : List Byte) : Option Placement :=
  match finOf? Config.numObjects (at16 r 0).toNat, finOf? Config.numPalettes (at8 r 6).toNat,
      readReduction (at8 r 8) with
  | some k, some p, some q =>
    some { obj := k, x := saturate (at16 r 2).toInt, y := saturate (at16 r 4).toInt, palette := p, opacity := at8 r 7,
           reduction := q, visible := (at8 r 9).getLsbD 0,
           window := if (at8 r 9).getLsbD 1
             then some { wx := at16 r 10, wy := at16 r 12, ww := at16 r 14, wh := at16 r 16 } else none }
  | _, _, _ => none

/-- A default button field: 0–23, or 0xFF for none (R74). -/
def readDefault (b : Byte) : Option (Option Nat) :=
  if b = 0xFF then some none else if b.toNat < 24 then some (some b.toNat) else none

/-- An accepted Page body. -/
structure PageSegment where
  page : PageId
  final : Bool
  defaultButton : Option Nat
  hold : Nat
  placements : List Placement
  deriving DecidableEq, Repr

/-- Page (R74). -/
def readPage (b : List Byte) : Option PageSegment :=
  let count := (at8 b 4).toNat
  if 5 ≤ b.length ∧ count ≤ 48 ∧ b.length = 5 + 18 * count then
    match finOf? Config.numPages (at8 b 0).toNat, readFlag (at8 b 1), readDefault (at8 b 2),
        allSome ((records 18 count (b.drop 5)).map readPlacement) with
    | some p, some f, some d, some l =>
      some { page := p, final := f, defaultButton := d, hold := (at8 b 3).toNat, placements := l }
    | _, _, _, _ => none
  else none

/-- Scroll: page, placement index, wx, wy; the page and the index are checked against the state (R78). -/
def readScroll (b : List Byte) : Option Scroll :=
  if b.length = 6 then
    (finOf? Config.numPages (at8 b 0).toNat).map fun p =>
      { page := p, index := (at8 b 1).toNat, wx := at16 b 2, wy := at16 b 4 }
  else none

/-- Show, as the schedule entry it asks for (R82). -/
def readShow (b : List Byte) : Option ShowEntry :=
  if b.length = 9 then
    match readCtx (at8 b 0), readPageOrNone (at8 b 1), readFlag (at8 b 2), readTransition (at8 b 7) (at8 b 8) with
    | some c, some p, some timed, some t =>
      some { ctx := c, page := p, time := if timed then some (at32 b 3) else none, trans := t, origin := .segment,
             restore := none, late := false }
    | _, _, _, _ => none
  else none

/-! ### Buttons (R121, 11.6) -/

/-- A visual triple. -/
def readVisual (kind : Byte) (operand : Half) : Option Visual :=
  match kind.toNat with
  | 0 => some .keep
  | 1 => (finOf? Config.numObjects operand.toNat).map .object
  | 2 => some (.animation operand.toNat)
  | _ => none

/-- A condition mode. -/
def readCondMode (b : Byte) : Option CondMode :=
  match b.toNat with
  | 0 => some .none
  | 1 => some .showIf
  | 2 => some .enableIf
  | _ => none

/-- A number field: 1–99, or 0xFF for none. -/
def readNumber (b : Byte) : Option (Option Nat) :=
  if b = 0xFF then some none else if 1 ≤ b.toNat ∧ b.toNat ≤ 99 then some (some b.toNat) else none

/-- An action with its operands o0–o3. -/
def readAction (kind o0 o1 o2 o3 : Byte) : Option Action :=
  match kind.toNat with
  | 0 => some .none
  | 1 => match finOf? Config.numPages o0.toNat, readTransition o1 o2 with
    | some p, some t => some (.goto p t)
    | _, _ => none
  | 2 => match finOf? Config.numPages o0.toNat, readTransition o1 o2 with
    | some p, some t => some (.replace p t)
    | _, _ => none
  | 3 => (readTransition o1 o2).map .back
  | 4 => (readTransition o1 o2).map .close
  | 5 => if o0.toNat < 64 then some (.slidesStart o0.toNat) else none
  | 6 => some .slidesStop
  | 7 => some (.setFlags (o0 ++ o1) (o2 ++ o3))
  | _ => none

/-- A button record, checked against a placement count. -/
def readButton (placements : Nat) (r : List Byte) : Option Button :=
  if (at8 r 0).toNat < placements then
    match readNumber (at8 r 1), readCondMode (at8 r 6), readVisual (at8 r 11) (at16 r 12),
        readVisual (at8 r 14) (at16 r 15), readVisual (at8 r 17) (at16 r 18), readVisual (at8 r 20) (at16 r 21),
        readFlag (at8 r 23), readAction (at8 r 24) (at8 r 25) (at8 r 26) (at8 r 27) (at8 r 28) with
    | some n, some m, some v1, some v2, some v3, some v4, some auto, some act =>
      some { placement := (at8 r 0).toNat, number := n, up := noneIfFF (at8 r 2), down := noneIfFF (at8 r 3),
             left := noneIfFF (at8 r 4), right := noneIfFF (at8 r 5), mode := m,
             cond := { mask := at16 r 7, compare := at16 r 9 }, normal := v1, selected := v2, activated := v3,
             disabled := v4, auto := auto, action := act,
             notify := if at16 r 29 = 0xFFFF then none else some (at16 r 29) }
    | _, _, _, _, _, _, _, _ => none
  else none

/-- An accepted Buttons body. -/
structure ButtonsSegment where
  page : PageId
  final : Bool
  buttons : List Button
  deriving DecidableEq, Repr

/-- Buttons (R121). `placements` gives the placement count that the segment is checked against, none for an undefined
page. -/
def readButtons (placements : PageId → Option Nat) (b : List Byte) : Option ButtonsSegment :=
  let count := (at8 b 2).toNat
  if 3 ≤ b.length ∧ count ≤ 24 ∧ b.length = 3 + 31 * count then
    match finOf? Config.numPages (at8 b 0).toNat, readFlag (at8 b 1) with
    | some p, some f =>
      match placements p with
      | none => none
      | some n =>
        match allSome ((records 31 count (b.drop 3)).map (readButton n)) with
        | some l => if (l.map Button.placement).Nodup then some { page := p, final := f, buttons := l } else none
        | none => none
    | _, _ => none
  else none

/-! ### Animations (R122, 11.7) -/

/-- An animation entry of three bytes. -/
def readAnimEntry (r : List Byte) : Option AnimEntry :=
  if (at8 r 2).toNat = 0 then none
  else if at16 r 0 = 0xFFFF then some { obj := none, hold := (at8 r 2).toNat }
  else (finOf? Config.numObjects (at16 r 0).toNat).map fun k => { obj := some k, hold := (at8 r 2).toNat }

/-- An animation mode. -/
def readAnimMode (b : Byte) : Option AnimMode :=
  match b.toNat with
  | 0 => some .once
  | 1 => some .loop
  | _ => none

/-- `n` animation records one after another, which must use the bytes up exactly. -/
def readAnimRecords : Nat → List Byte → Option (List Animation)
  | 0, l => if l = [] then some [] else none
  | n + 1, l =>
    let count := (at8 l 1).toNat
    if 2 + 3 * count ≤ l.length ∧ 1 ≤ count ∧ count ≤ 16 then
      match readAnimMode (at8 l 0), allSome ((records 3 count (l.drop 2)).map readAnimEntry) with
      | some m, some es =>
        (readAnimRecords n (l.drop (2 + 3 * count))).map ({ mode := m, entries := es } :: ·)
      | _, _ => none
    else none

/-- An accepted Animations body. -/
structure AnimationsSegment where
  page : PageId
  final : Bool
  animations : List Animation
  deriving DecidableEq, Repr

/-- Animations (R122). `defined` tells whether a page is defined. -/
def readAnimations (defined : PageId → Bool) (b : List Byte) : Option AnimationsSegment :=
  if 3 ≤ b.length ∧ (at8 b 2).toNat ≤ 8 then
    match finOf? Config.numPages (at8 b 0).toNat, readFlag (at8 b 1),
        readAnimRecords (at8 b 2).toNat (b.drop 3) with
    | some p, some f, some l => if defined p then some { page := p, final := f, animations := l } else none
    | _, _, _ => none
  else none

/-! ### Slide List and Slide Control (R147 to R149, 11.8) -/

/-- A start source. -/
def readStartKind (b : Byte) : Option StartKind :=
  match b.toNat with
  | 0 => some .command
  | 1 => some .button
  | 2 => some .time
  | 3 => some .flags
  | _ => none

/-- A stop source. -/
def readStopKind (b : Byte) : Option StopKind :=
  match b.toNat with
  | 0 => some .command
  | 1 => some .button
  | 2 => some .flags
  | _ => none

/-- An end mode. -/
def readEndMode (b : Byte) : Option EndMode :=
  match b.toNat with
  | 0 => some .once
  | 1 => some .rep
  | 2 => some .loop
  | _ => none

/-- A configuration of 16 bytes (R148). -/
def readConfig (r : List Byte) : Option SlideConfig :=
  match readStartKind (at8 r 0), readStopKind (at8 r 9), readEndMode (at8 r 15) with
  | some a, some z, some e =>
    if (at8 r 14).toNat ≤ 63 then
      some { startKind := a, startTime := at32 r 1, startCond := { mask := at16 r 5, compare := at16 r 7 },
             stopKind := z, stopCond := { mask := at16 r 10, compare := at16 r 12 }, drainCount := (at8 r 14).toNat,
             endMode := e }
    else none
  | _, _, _ => none

/-- A slide entry of 10 bytes (R146). -/
def readSlideEntry (r : List Byte) : Option SlideEntry :=
  match finOf? Config.numPages (at8 r 0).toNat, readTransition (at8 r 3) (at8 r 4) with
  | some p, some t =>
    some { page := p, duration := (at16 r 1).toNat, trans := t,
           cue := if at8 r 5 = 0xFF then none else some (at8 r 5),
           cond := { mask := at16 r 6, compare := at16 r 8 } }
  | _, _ => none

/-- An accepted Slide List body. -/
structure SlideListSegment where
  config : SlideConfig
  arm : Bool
  list : List SlideEntry
  deriving DecidableEq, Repr

/-- Slide List (R147). -/
def readSlideList (b : List Byte) : Option SlideListSegment :=
  let count := (at8 b 0).toNat
  if 18 ≤ b.length ∧ count ≤ 64 ∧ b.length = 18 + 10 * count then
    match readConfig (b.drop 1), readFlag (at8 b 17), allSome ((records 10 count (b.drop 18)).map readSlideEntry) with
    | some c, some a, some l => some { config := c, arm := a, list := l }
    | _, _, _ => none
  else none

/-- A Slide Control operation with its configuration where it has one (R149). -/
inductive SlideCommand where
  | configure (c : SlideConfig)
  | arm | disarm | start | stop | pause | resume | next | prev
  deriving DecidableEq, Repr

/-- Slide Control (R149). -/
def readSlideControl (b : List Byte) : Option SlideCommand :=
  match b with
  | [] => none
  | op :: rest =>
    if op.toNat = 0 then (if rest.length = 16 then (readConfig rest).map .configure else none)
    else if rest = [] then
      match op.toNat with
      | 1 => some .arm
      | 2 => some .disarm
      | 3 => some .start
      | 4 => some .stop
      | 5 => some .pause
      | 6 => some .resume
      | 7 => some .next
      | 8 => some .prev
      | _ => none
    else none

/-! ### Key, Flags, Clock, Output, Attention Mask -/

/-- A key code (11.2). -/
def readKeyCode (b : Byte) : Option Key :=
  match b.toNat with
  | 0 => some .up
  | 1 => some .down
  | 2 => some .left
  | 3 => some .right
  | 4 => some .ok
  | 5 => some .back
  | 6 => some .number
  | 7 => some .popup
  | _ => none

/-- Key (R131). -/
def readKey (b : List Byte) : Option KeyEntry :=
  if b.length = 3 then
    match readKeyCode (at8 b 0), readFlag (at8 b 2) with
    | some k, some r =>
      if k = .number ∧ ¬(1 ≤ (at8 b 1).toNat ∧ (at8 b 1).toNat ≤ 99) then none
      else some { key := k, number := at8 b 1, rep := r }
    | _, _ => none
  else none

/-- Flags: set mask and clear mask (R117). -/
def readFlags (b : List Byte) : Option (Half × Half) :=
  if b.length = 4 then some (at16 b 0, at16 b 2) else none

/-- Clock (R68). -/
def readClock (b : List Byte) : Option FrameCount := if b.length = 4 then some (at32 b 0) else none

/-- Output, its fill colour clamped (R99). -/
def readOutput (b : List Byte) : Option OutputSetting :=
  if b.length = 4 then
    let c := clampPixel { y := at8 b 1, cb := at8 b 2, cr := at8 b 3 }
    match (at8 b 0).toNat with
    | 0 => some { mode := .pass, fill := c }
    | 1 => some { mode := .composed, fill := c }
    | 2 => some { mode := .fill, fill := c }
    | _ => none
  else none

/-- Attention Mask: one byte with bit 7 clear (R171). -/
def readMask (b : List Byte) : Option Byte :=
  if b.length = 1 ∧ (at8 b 0).getLsbD 7 = false then some (at8 b 0) else none

/-! ### The segment a command stands for -/

/-- The body of a Palette segment of a given mode (11.3). -/
def paletteBody (mode : ApplyMode) (p : BitVec 4) (count : BitVec 9) (t : FrameCount) (entries : List Byte) :
    List Byte :=
  (count.extractLsb' 8 1 ++ mode.code ++ p) :: count.extractLsb' 0 8 :: bytes32 t ++ entries

/-- The body of an Object Data segment at a given position (11.4). -/
def fragmentBody (pos : Position) (id : Half) (rest : List Byte) : List Byte :=
  id.extractLsb' 8 8 :: id.extractLsb' 0 8 :: pos.code :: rest

/-- The kind and body of the segment that a segment command presents; none for the other commands. -/
def segmentOf : Instr → Option Segment
  | .setOpen b => some ⟨.setOpen, b⟩
  | .objectDataFirst id r => some ⟨.objectData, fragmentBody .first id r⟩
  | .objectDataOnly id r => some ⟨.objectData, fragmentBody .only id r⟩
  | .objectDataMiddle id r => some ⟨.objectData, fragmentBody .middle id r⟩
  | .objectDataLast id r => some ⟨.objectData, fragmentBody .last id r⟩
  | .objectDrop b => some ⟨.objectDrop, b⟩
  | .paletteHold p n t e => some ⟨.palette, paletteBody .hold p n t e⟩
  | .paletteNext p n t e => some ⟨.palette, paletteBody .next p n t e⟩
  | .paletteAt p n t e => some ⟨.palette, paletteBody .atTime p n t e⟩
  | .paletteDiscard p n t e => some ⟨.palette, paletteBody .discard p n t e⟩
  | .pageSegment b => some ⟨.page, b⟩
  | .buttons b => some ⟨.buttons, b⟩
  | .animations b => some ⟨.animations, b⟩
  | .scroll b => some ⟨.scroll, b⟩
  | .showSegment b => some ⟨.showPage, b⟩
  | .slideList b => some ⟨.slideList, b⟩
  | .key b => some ⟨.key, b⟩
  | .flags b => some ⟨.flags, b⟩
  | .clock b => some ⟨.clock, b⟩
  | .output b => some ⟨.output, b⟩
  | .configure r => some ⟨.slideControl, SlideOp.configure.code :: r⟩
  | .arm r => some ⟨.slideControl, SlideOp.arm.code :: r⟩
  | .disarm r => some ⟨.slideControl, SlideOp.disarm.code :: r⟩
  | .slideStart r => some ⟨.slideControl, SlideOp.start.code :: r⟩
  | .slideStop r => some ⟨.slideControl, SlideOp.stop.code :: r⟩
  | .slidePause r => some ⟨.slideControl, SlideOp.pause.code :: r⟩
  | .slideResume r => some ⟨.slideControl, SlideOp.resume.code :: r⟩
  | .slideNext r => some ⟨.slideControl, SlideOp.next.code :: r⟩
  | .slidePrev r => some ⟨.slideControl, SlideOp.prev.code :: r⟩
  | .statusRequest b => some ⟨.statusRequest, b⟩
  | .attentionMask b => some ⟨.attentionMask, b⟩
  | .restart b => some ⟨.restart, b⟩
  | .segmentByte _ | .fragmentComplete | .engineFrameStart | .transitionEnd _ | .storeFrameStart | .paletteFrameStart
  | .mixerFrameStart | .line _ | .mixerFrameEnd | .storeFrameEnd | .navFrameEnd | .activationExpiry _
  | .playheadStep _ _ | .sequencerFrameEnd | .dwellExpiry | .slideReady | .lateSlide | .timeTrigger | .readStrobe
  | .resetNAsserted | .resetNReleased => none

end Sys2Proof.Machine
end

