-- ==== Sys2Proof/Machine/ObjectStore.lean ====
section
/-! DEFINITION. The object store (chapter 2): loads requested, completed and abandoned, drops, the swaps of a frame
start and the releases of a frame end. -/

namespace Sys2Proof.Machine

open Sys2Proof

/-- The current version of a slot (R23, R24). -/
def Slot.current : Slot → Option Version
  | .empty | .loading _ | .pending _ => none
  | .ready c | .updating c _ | .swapping c _ | .dropping c => some c

/-- The incoming version of a slot (R23). -/
def Slot.incoming : Slot → Option Version
  | .empty | .ready _ | .dropping _ => none
  | .loading i | .pending i | .updating _ i | .swapping _ i => some i

/-- A slot has a current version (R24). -/
def Slot.drawn (x : Slot) : Bool := x.current.isSome

/-- An object counts as ready: its slot has a current version and is not DROPPING (R24, R155). -/
def Slot.countsReady : Slot → Bool
  | .ready _ | .updating _ _ | .swapping _ _ => true
  | .empty | .loading _ | .pending _ | .dropping _ => false

/-- The granules of a slot's incoming chain. -/
def Slot.incomingChain (x : Slot) : List Granule := (x.incoming.map Version.chain).getD []

/-- The granules of a slot's current chain. -/
def Slot.currentChain (x : Slot) : List Granule := (x.current.map Version.chain).getD []

/-! ### Loads -/

/-- A new incoming version, being built, with a clear fault flag (R25). -/
def newVersion (v : Byte) (w h : Nat) (d : Depth) (chain : List Granule) : Version :=
  { number := v, width := w, height := h, depth := d, fault := false, chain := chain }

/-- The slot after a reserved load, by the state it was in (R26). A slot in LOADING or UPDATING, which R26 says a
reserved load cannot find, gives up its incoming version as PENDING and SWAPPING do. -/
def Slot.reserve (inc : Version) : Slot → Slot
  | .empty | .pending _ | .loading _ => .loading inc
  | .ready c | .swapping c _ | .updating c _ | .dropping c => .updating c inc

/-- A load request that R28 skips: the slot is READY at the same version number. -/
def Slot.repeats (v : Byte) : Slot → Bool
  | .ready c => c.number == v
  | .empty | .loading _ | .pending _ | .updating _ _ | .swapping _ _ | .dropping _ => false

/-- What the store tells the decoder about a requested load (R25). -/
inductive LoadOutcome where
  | skipped
  | noSpace (needed free : Nat)
  | reserved
  deriving DecidableEq, Repr

/-- The store's decision on a load of version v of object k (R25). -/
def Store.decide (st : Store) (k : ObjId) (v : Byte) (w h : Nat) (d : Depth) : LoadOutcome :=
  if (st.slot k).repeats v then .skipped
  else if st.free.length < granulesNeeded w h d then .noSpace (granulesNeeded w h d) st.free.length
  else .reserved

/-- The store after a reserved load: g granules from the head of the free list form the new incoming chain, the slot
moves, and a replaced incoming chain goes to the tail (R25, R26). -/
def Store.reserve (st : Store) (k : ObjId) (v : Byte) (w h : Nat) (d : Depth) : Store :=
  let g := granulesNeeded w h d
  let old := st.slot k
  Store.release
    { slots := st.slots.set k.val (old.reserve (newVersion v w h d (st.free.take g))) k.isLt, free := st.free.drop g }
    old.incomingChain

/-- The slot after its load completes (R29). -/
def Slot.complete : Slot → Slot
  | .loading i => .pending i
  | .updating c i => .swapping c i
  | x => x

/-- The slot with the fault flag of the version being built (R23, R40). -/
def Slot.setFault (f : Bool) : Slot → Slot
  | .loading i => .loading { i with fault := f }
  | .updating c i => .updating c { i with fault := f }
  | x => x

/-- The store with the fault flag of the version that k is loading. -/
def Store.setFault (st : Store) (k : ObjId) (f : Bool) : Store := st.setSlot k ((st.slot k).setFault f)

/-- The store after the load of k completes (R29). -/
def Store.complete (st : Store) (k : ObjId) : Store := st.setSlot k (st.slot k).complete

/-- The slot after its load is abandoned for OTHER-OBJECT, SUPERSEDED or DAMAGED (R30). -/
def Slot.abandon : Slot → Slot
  | .loading _ => .empty
  | .updating c _ => .ready c
  | x => x

/-- The chain of a version being built, which an abandonment releases (R30). -/
def Slot.buildingChain : Slot → List Granule
  | .loading i | .updating _ i => i.chain
  | .empty | .pending _ | .ready _ | .swapping _ _ | .dropping _ => []

/-- The store after the load of k is abandoned: the slot moves and the incoming chain goes to the tail (R30). -/
def Store.abandon (st : Store) (k : ObjId) : Store :=
  (st.setSlot k (st.slot k).abandon).release (st.slot k).buildingChain

/-- The store abandons the decoder's load and raises ABANDONED (R30). -/
def abandonLoad (l : Load) (r : AbandonReason) (s : State) : State :=
  (s.setStore (s.store.abandon l.id)).raise (.abandoned l.id l.version r)

/-! ### Object Drop and Set Open -/

/-- The slot after an Object Drop (R32). -/
def Slot.drop : Slot → Slot
  | .empty | .loading _ | .pending _ => .empty
  | .ready c | .updating c _ | .swapping c _ | .dropping c => .dropping c

/-- The version of a load that a drop abandons (R32). -/
def Slot.building : Slot → Option Version
  | .loading i | .updating _ i => some i
  | .empty | .pending _ | .ready _ | .swapping _ _ | .dropping _ => none

/-- The store after an Object Drop of k: the incoming chain, if any, is released (R32). -/
def Store.drop (st : Store) (k : ObjId) : Store :=
  (st.setSlot k (st.slot k).drop).release (st.slot k).incomingChain

/-- The store after a valid Set Open: every slot gives up its incoming version and marks its current one, chains
released in ascending order of id (R35). The slot moves as for a drop. -/
def Store.setOpen (st : Store) : Store :=
  { slots := tableMap (fun _ x => x.drop) st.slots,
    free := st.free ++ tableJoin (fun _ x => x.incomingChain) st.slots }

/-! ### Frame start and frame end -/

/-- The slot after a frame start (R31). -/
def Slot.swap : Slot → Slot
  | .pending i => .ready i
  | .swapping _ i => .ready i
  | x => x

/-- The chain that a frame start releases (R31). -/
def Slot.swapped : Slot → List Granule
  | .swapping c _ => c.chain
  | .empty | .loading _ | .pending _ | .ready _ | .updating _ _ | .dropping _ => []

/-- The store after its frame start: every complete incoming version becomes current (R31). -/
def Store.frameStart (st : Store) : Store :=
  { slots := tableMap (fun _ x => x.swap) st.slots, free := st.free ++ tableJoin (fun _ x => x.swapped) st.slots }

/-- The slot of k after a frame end: a DROPPING slot outside the live reference set becomes EMPTY (R33). -/
def Slot.expire (live : List ObjId) (k : ObjId) : Slot → Slot
  | .dropping c => if k ∈ live then .dropping c else .empty
  | x => x

/-- The chain that a frame end releases (R33). -/
def Slot.expired (live : List ObjId) (k : ObjId) : Slot → List Granule
  | .dropping c => if k ∈ live then [] else c.chain
  | .empty | .loading _ | .pending _ | .ready _ | .updating _ _ | .swapping _ _ => []

/-- The store after its frame end, against the live reference set in force (R33, R34). -/
def Store.frameEnd (st : Store) (live : List ObjId) : Store :=
  { slots := tableMap (Slot.expire live) st.slots, free := st.free ++ tableJoin (Slot.expired live) st.slots }

end Sys2Proof.Machine
end

