-- ==== Sys2Proof/Machine/ObjectCode.lean ====
section
/-! DEFINITION. The object code (3.3, 3.4): the rows that code bytes write into an incoming chain. -/

namespace Sys2Proof.Machine

open Sys2Proof

/-- What the decoder works on while it consumes a fragment's code bytes: the load record, the incoming chain, object
memory and the fault flag (R38, R40). -/
structure Canvas where
  load : Load
  chain : List Granule
  mem : Memory
  fault : Bool
  deriving DecidableEq, Repr

/-- The stride of the version being built (R22). -/
def Canvas.stride (c : Canvas) : Nat := strideOf c.load.width c.load.depth

/-- The fault flag set (R51). -/
def Canvas.setFault (c : Canvas) : Canvas := { c with fault := true }

/-- The pending code replaced (R44). -/
def Canvas.setCode (c : Canvas) (p : Option PendingCode) : Canvas := { c with load := { c.load with code := p } }

/-- The end flag set (R49). -/
def Canvas.setEnded (c : Canvas) : Canvas := { c with load := { c.load with ended := true } }

/-- Index `ix` written at column `u` of row `v` (R22, R45). -/
def Canvas.poke (c : Canvas) (u v : Nat) (ix : Byte) : Canvas :=
  let off := pixelOffset c.load.width c.load.depth u v
  { c with mem := chainWrite c.mem c.chain off (withIndex c.load.depth u ix (chainRead c.mem c.chain off)) }

/-- One pixel of a run at the write position: reduced to the depth's low bits, discarded beyond the row (R45, R46). -/
def Canvas.putPixel (ix : Byte) (c : Canvas) : Canvas :=
  if c.load.col < c.load.width then
    let c1 := c.poke c.load.col c.load.row ix
    { c1 with load := { c1.load with col := c1.load.col + 1 }, fault := c1.fault || (ix &&& c.load.depth.mask) != ix }
  else c.setFault

/-- A run of `n` pixels of one index (R45). -/
def Canvas.putRun (ix : Byte) : Nat → Canvas → Canvas
  | 0, c => c
  | n + 1, c => Canvas.putRun ix n (c.putPixel ix)

/-- Bytes of 0 at `n` offsets from `off` on. -/
def zeroBytes (chain : List Granule) : Nat → Nat → Memory → Memory
  | 0, _, m => m
  | n + 1, off, m => zeroBytes chain n (off + 1) (chainWrite m chain off 0)

/-- The padding bits of the current row written as 0 (R22, R38, R45): the low bits of the byte that holds the last
pixel, and every whole byte after it. -/
def Canvas.padRow (c : Canvas) : Canvas :=
  let used := c.load.width * c.load.depth.bits
  let base := c.load.row * c.stride
  let keep : Byte := ~~~((255 : Byte) >>> (used % 8))
  let mem :=
    if used % 8 = 0 then c.mem
    else chainWrite c.mem c.chain (base + used / 8) (chainRead c.mem c.chain (base + used / 8) &&& keep)
  { c with mem := zeroBytes c.chain (c.stride - (used + 7) / 8) (base + (used + 7) / 8) mem }

/-- The current row is complete: its padding is written and the position moves to the next row, column 0 (R45). -/
def Canvas.closeRow (c : Canvas) : Canvas :=
  let c1 := c.padRow
  { c1 with load := { c1.load with row := c1.load.row + 1, col := 0 } }

/-- The end of a run: a full row is complete (R45). -/
def Canvas.endRun (c : Canvas) : Canvas := if c.load.col = c.load.width then c.closeRow else c

/-- Index 0 written at `n` columns from column `u` of the current row. -/
def Canvas.clearColumns : Nat → Nat → Canvas → Canvas
  | 0, _, c => c
  | n + 1, u, c => Canvas.clearColumns n (u + 1) (c.poke u c.load.row 0)

/-- The rest of the current row filled with index 0, and the row complete (R47). -/
def Canvas.fillRow (c : Canvas) : Canvas := (Canvas.clearColumns (c.load.width - c.load.col) c.load.col c).closeRow

/-- `n` whole rows from the position on filled with index 0. -/
def Canvas.fillRows : Nat → Canvas → Canvas
  | 0, c => c
  | n + 1, c => Canvas.fillRows n c.fillRow

/-- The rest of the current row, if it is partly written, and every row below it filled with index 0 (R49, R51). -/
def Canvas.fillObject (c : Canvas) : Canvas :=
  let c1 := if c.load.col = 0 then c else c.fillRow
  Canvas.fillRows (c1.load.height - c1.load.row) c1

/-- `n` bytes copied from offset `src` to offset `dst` of a chain. -/
def copyBytes (chain : List Granule) : Nat → Nat → Nat → Memory → Memory
  | 0, _, _, m => m
  | n + 1, src, dst, m => copyBytes chain n (src + 1) (dst + 1) (chainWrite m chain dst (chainRead m chain src))

/-- One copy of the row above the position, padding included; at row 0 a row of index 0 (R48). -/
def Canvas.copyRow (c : Canvas) : Canvas :=
  if c.load.row = 0 then c.fillRow
  else
    { c with mem := copyBytes c.chain c.stride ((c.load.row - 1) * c.stride) (c.load.row * c.stride) c.mem,
             load := { c.load with row := c.load.row + 1, col := 0 } }

/-- `n` copies, each of the row above its position, so each equal to the row above the first. Copies at row 0 are rows
of index 0, and so are the copies of them. -/
def Canvas.copyRows : Nat → Canvas → Canvas
  | 0, c => c
  | n + 1, c => Canvas.copyRows n c.copyRow

/-- Copy rows with count byte n: a partly written row is first completed with a fault, then n + 1 copies, cut at the
height with a fault (R48). -/
def Canvas.copyCode (n : Nat) (c : Canvas) : Canvas :=
  let c1 := if c.load.col = 0 then c else c.fillRow.setFault
  let room := c1.load.height - c1.load.row
  let c2 := Canvas.copyRows (min (n + 1) room) c1
  if room < n + 1 then c2.setFault else c2

/-- A code byte where a code is expected, with rows still to write (R44, R45, R47, R49); none if it is invalid (R50). -/
def Canvas.codeByte (b : Byte) (c : Canvas) : Option Canvas :=
  let n := b.toNat
  if n < 0x40 then some (c.setCode (some (.literal (n + 1))))
  else if n < 0x80 then some (c.setCode (some (.shortRepeat (n - 0x40 + 2))))
  else if n < 0xA0 then some (c.setCode (some (.longCount (n - 0x80))))
  else if n = 0xA0 then some c.fillRow
  else if n = 0xA1 then some (c.setCode (some .copyRows))
  else if n = 0xA2 then some c.fillObject.setEnded
  else none

/-- The first byte after the last row has been written: 0xA2 ends the object without fault, any other is ignored with
a fault (R49). -/
def Canvas.afterLastRow (b : Byte) (c : Canvas) : Canvas :=
  if b.toNat = 0xA2 then c.setEnded else c.setFault.setEnded

/-- One operand byte of a pending code (R44, R45, R48). -/
def Canvas.operandByte (p : PendingCode) (b : Byte) (c : Canvas) : Canvas :=
  match p with
  | .literal left =>
    if left ≤ 1 then ((c.putPixel b).endRun).setCode none else (c.putPixel b).setCode (some (.literal (left - 1)))
  | .shortRepeat n => ((Canvas.putRun b n c).endRun).setCode none
  | .longCount high => c.setCode (some (.longIndex (high * 256 + b.toNat + 1)))
  | .longIndex n => ((Canvas.putRun b n c).endRun).setCode none
  | .copyRows => (Canvas.copyCode b.toNat c).setCode none

/-- One code byte of a fragment (R44 to R50); none where it is invalid. -/
def Canvas.consume (b : Byte) (c : Canvas) : Option Canvas :=
  if c.load.ended then some c.setFault
  else
    match c.load.code with
    | some p => some (c.operandByte p b)
    | none => if c.load.height ≤ c.load.row then some (c.afterLastRow b) else c.codeByte b

/-- How a fragment's code bytes end: all consumed, or at an invalid one. -/
inductive Consumed where
  | all (c : Canvas)
  | damaged (c : Canvas)
  deriving DecidableEq, Repr

/-- The code bytes of a fragment consumed in order, up to an invalid one (R44, R50). -/
def Canvas.consumeAll : List Byte → Canvas → Consumed
  | [], c => .all c
  | b :: l, c =>
    match c.consume b with
    | some c' => Canvas.consumeAll l c'
    | none => .damaged c

/-- The close of a load: a pending code is dropped with a fault; rows still unwritten without the end code are filled
with a fault (R51). -/
def Canvas.close (c : Canvas) : Canvas :=
  let c1 := if c.load.code.isSome then (c.setCode none).setFault else c
  if c1.load.ended = false ∧ c1.load.row < c1.load.height then c1.fillObject.setFault else c1

end Sys2Proof.Machine
end

