-- ==== Sys2Proof/Machine/ObjectDecoder.lean ====
section
/-! DEFINITION. The object decoder (chapter 3): fragments taken and completed, and Object Drop, which also ends a load
in AWAIT. -/

namespace Sys2Proof.Machine

open Sys2Proof

/-- The decoder is busy: it is in DECODING (R40). -/
def Decoder.busy : Decoder → Bool
  | .decoding _ _ _ => true
  | .idle | .await _ | .skipping _ => false

/-- The load the decoder holds, in DECODING and AWAIT (R40). -/
def Decoder.load? : Decoder → Option Load
  | .decoding l _ _ | .await l => some l
  | .idle | .skipping _ => none

/-- MALFORMED for a body of a kind (R15, 11.10). -/
def malformed (k : Kind) (body : List Byte) (s : State) : State := s.raise (.malformed k.code body.length)

/-- A fresh load record (R41). -/
def newLoad (k : ObjId) (v : Byte) (w h : Nat) (d : Depth) : Load :=
  { id := k, version := v, width := w, height := h, depth := d, row := 0, col := 0, code := none, ended := false }

/-- What a FIRST or ONLY for k first ends: a load in AWAIT is abandoned (R41). -/
def endHeldLoad (k : ObjId) (s : State) : State :=
  match s.decoder with
  | .await l => abandonLoad l (if l.id = k then .superseded else .otherObject) s
  | .idle | .decoding _ _ _ | .skipping _ => s

/-- A load is requested from the store; the decoder decodes, or skips (R25, R27, R28, R41). -/
def requestLoad (k : ObjId) (only : Bool) (v : Byte) (w h : Nat) (d : Depth) (code : List Byte) (s : State) : State :=
  match s.store.decide k v w h d with
  | .skipped => s.setDecoder (.skipping k)
  | .noSpace g f => (s.raise (.noSpace k g f)).setDecoder (.skipping k)
  | .reserved =>
    (s.setStore (s.store.reserve k v w h d)).setDecoder
      (.decoding (newLoad k v w h d) (if only then .only else .first) code)

/-- A MIDDLE or LAST for k is taken (R42). -/
def joinLoad (k : ObjId) (last : Bool) (code : List Byte) (s : State) : State :=
  let pos : Position := if last then .last else .middle
  match s.decoder with
  | .await l => if l.id = k then s.setDecoder (.decoding l pos code) else s.raise (.strayFragment k pos)
  | .skipping j => if j = k then s else s.raise (.strayFragment k pos)
  | .idle => s.raise (.strayFragment k pos)
  | .decoding _ _ _ => s

/-- The decoder takes an Object Data fragment (R39, R41, R42). The router gives it one only while it is not busy. -/
def takeFragment (body : List Byte) (s : State) : State :=
  match readFragment body with
  | none => malformed .objectData body s
  | some (.opening k only v w h d code) => requestLoad k only v w h d code (endHeldLoad k s)
  | some (.following k last code) => joinLoad k last code s

/-- What the decoder works on for a load: the record, and the chain and fault flag of the version being built. -/
def canvasOf (l : Load) (s : State) : Canvas :=
  match (s.store.slot l.id).building with
  | some v => { load := l, chain := v.chain, mem := s.mem, fault := v.fault }
  | none => { load := l, chain := [], mem := s.mem, fault := false }

/-- A fragment completes with its load going on: the load record and the fault flag are kept (R43). -/
def keepLoad (c : Canvas) (s : State) : State :=
  ((s.setMem c.mem).setStore (s.store.setFault c.load.id c.fault)).setDecoder (.await c.load)

/-- A fragment completes its load: the store completes it and READY is raised (R29, R43, R51). -/
def finishLoad (c : Canvas) (s : State) : State :=
  (((s.setMem c.mem).setStore ((s.store.setFault c.load.id c.fault).complete c.load.id)).raise
    (.ready c.load.id c.load.version c.fault)).setDecoder .idle

/-- A fragment completes at an invalid code byte: DAMAGED, then ABANDONED, and SKIPPING (R50). -/
def damageLoad (c : Canvas) (s : State) : State :=
  (abandonLoad c.load .damaged ((s.setMem c.mem).raise (.damaged c.load.id c.load.row))).setDecoder
    (.skipping c.load.id)

/-- The decoder consumes the rest of the fragment in hand and completes it (R43, R50, R51). -/
def completeFragment (l : Load) (pos : Position) (code : List Byte) (s : State) : State :=
  match Canvas.consumeAll code (canvasOf l s) with
  | .damaged c => damageLoad c s
  | .all c =>
    match pos with
    | .first | .middle => keepLoad c s
    | .last | .only => finishLoad c.close s

/-- The decoder after a drop of k: a load of k in AWAIT ends (R52). -/
def Decoder.afterDrop (k : ObjId) : Decoder → Decoder
  | .await l => if l.id = k then .skipping k else .await l
  | x => x

/-- A valid Object Drop of k (R32, R52). -/
def dropObject (k : ObjId) (s : State) : State :=
  let s1 := (s.setStore (s.store.drop k)).setDecoder (s.decoder.afterDrop k)
  match (s.store.slot k).building with
  | some v => s1.raise (.abandoned k v.number .dropped)
  | none => s1

/-- The object store takes an Object Drop (R32). -/
def takeDrop (body : List Byte) (s : State) : State :=
  match readDrop body with
  | none => malformed .objectDrop body s
  | some k => dropObject k s

end Sys2Proof.Machine
end

