-- ==== Sys2Proof/Machine/Palettes.lean ====
section
/-! DEFINITION. The palette unit (chapter 4): Palette segments and the patch, and its application at a frame start. -/

namespace Sys2Proof.Machine

open Sys2Proof

/-- Entries written into a touched set in order, the last of an index kept (R58). -/
def touch (t : Touched) (entries : List (Nat × Entry)) : Touched := entries.foldl (fun t e => putKey e.1 e.2 t) t

/-- An open patch after a segment's entries have been written, by the apply mode (R59). -/
def patchAfter (p : PaletteId) (t : Touched) (mode : ApplyMode) (time : FrameCount) : Patch :=
  match mode with
  | .hold => .collecting p t
  | .next => .scheduled p t .nextFrame
  | .atTime => .scheduled p t (.atTime time)
  | .discard => .closed

/-- The state with another patch. -/
def State.setPatch (s : State) (x : Patch) : State := s.setPalette { s.palette with patch := x }

/-- An accepted Palette segment, by the state of the patch (R60 to R62). -/
def applyPalette (g : PaletteSegment) (s : State) : State :=
  match s.palette.patch with
  | .closed => s.setPatch (patchAfter g.palette (touch [] g.entries) g.mode g.time)
  | .collecting p t =>
    if g.palette = p then s.setPatch (patchAfter p (touch t g.entries) g.mode g.time)
    else s.raise (.patchBusy g.palette p)
  | .scheduled p _ _ =>
    if g.palette = p ∧ g.mode = .discard then s.setPatch .closed else s.raise (.patchBusy g.palette p)

/-- The palette unit takes a Palette segment (R57). -/
def takePalette (body : List Byte) (s : State) : State :=
  match readPalette body with
  | none => malformed .palette body s
  | some g => applyPalette g s

/-- An apply time has come at a frame start that gives this FC value (R63). -/
def ApplyTime.come (fc : FrameCount) : ApplyTime → Bool
  | .nextFrame => true
  | .atTime t => isDue fc t

/-- A palette with every member of a touched set written at its index (R63). -/
def writeTouched (t : Touched) (pal : Palette) : Palette := tableMap (fun i e => (getKey i.val t).getD e) pal

/-- The live palettes with a touched set written into one of them (R63). -/
def PaletteUnit.apply (u : PaletteUnit) (p : PaletteId) (t : Touched) : PaletteUnit :=
  { live := u.live.set p.val (writeTouched t u.live[p]) p.isLt, patch := .closed }

/-- A SCHEDULED patch tested at a frame start that gives `fc` (R63). -/
def testPatch (fc : FrameCount) (s : State) : State :=
  match s.palette.patch with
  | .scheduled p t time =>
    if time.come fc then (s.setPalette (s.palette.apply p t)).raiseAt fc (.patchApplied p t.length) else s
  | .closed | .collecting _ _ => s

/-- The palette unit takes a frame start (R63). The skew keeps its FC value for the engine (log entry 5). -/
def paletteStart (s : State) : State := (testPatch s.startFc s).setSkew (s.skew.paletteTook s.startFc)

end Sys2Proof.Machine
end

