-- ==== Sys2Proof/Machine/SlideSequencer.lean ====
section
/-! DEFINITION. Insertion into the show schedule (R83), and the slide sequencer (chapter 8): triggers, scans, the frame
end, notices, keys, Slide List and Slide Control. -/

namespace Sys2Proof.Machine

open Sys2Proof

/-! ### The show schedule takes an entry -/

/-- The schedule has room (R83). -/
def Engine.hasRoom (e : Engine) : Bool := e.schedule.length < Config.maxSchedule

/-- The engine with an entry appended, its late flag set if its T is already due (R83). -/
def Engine.append (e : Engine) (x : ShowEntry) : Engine :=
  { e with schedule := e.schedule ++ [{ x with late := match x.time with | some t => isDue e.fc t | none => false }] }

/-- An entry is inserted, or refused with SCHEDULE-FULL (R83). The answer tells whether it was accepted. -/
def insertEntry (x : ShowEntry) (s : State) : Bool × State :=
  if s.engine.hasRoom then (true, s.setEngine (s.engine.append x))
  else (false, s.raise (.scheduleFull x.ctx x.page x.origin))

/-! ### The sequencer's own fields -/

/-- The running states (R145). -/
def RunState.isRunning : RunState → Bool
  | .running | .held | .draining => true
  | .idle | .armed | .ended => false

/-- The reference entry: the target, else the placed entry, else the shown entry (R153). -/
def Sequencer.reference (q : Sequencer) : Option Nat :=
  match q.target, q.placed with
  | some t, _ => some t.entry
  | none, some p => some p.entry
  | none, none => q.shown

/-- The end mode is LOOP. -/
def Sequencer.loops (q : Sequencer) : Bool := q.config.endMode == .loop

/-- An entry becomes the target in stage READYING with wait count 0; the dwell becomes absent (R153). -/
def Sequencer.aim (q : Sequencer) (i : Nat) : Sequencer :=
  { q with target := some { entry := i, ready := false, wait := 0 }, dwell := .absent }

/-- A duration begins to count, or the slide stays until NEXT (R157). -/
def dwellFor (duration : Nat) : Dwell := if duration = 0 then .still else .counting duration

/-- The duration of an entry of the list. -/
def Sequencer.durationOf (q : Sequencer) (i : Nat) : Nat := (q.list[i]?.map SlideEntry.duration).getD 0

/-! ### Ends, scans and advances -/

/-- A run ends: ENDED is raised; target, dwell and drain remaining are cleared (R162). -/
def endRun (why : EndReason) (final : RunState) (s : State) : State :=
  let s1 := s.raise (.ended why s.seq.shown)
  s1.setSeq { s1.seq with run := final, target := none, dwell := .absent, drain := 0 }

/-- A scan examines entries in the given order and stops at the first eligible one; an entry whose condition is true and
whose page is undefined raises ENTRY-SKIPPED (R146, R153). -/
def scanEntries : List Nat → State → Option Nat × State
  | [], s => (none, s)
  | i :: l, s =>
    match s.seq.list[i]? with
    | none => scanEntries l s
    | some e =>
      if e.cond.holds s.seq.flagsCopy = false then scanEntries l s
      else if (s.engine.page e.page).defined then (some i, s)
      else scanEntries l (s.raise (.entrySkipped i e.page))

/-- The order of a start scan from entry e (R153). -/
def startOrder (count : Nat) (loop : Bool) (e : Nat) : List Nat :=
  if e < count then (List.range count).drop e ++ (if loop then (List.range count).take e else []) else []

/-- The order of a forward scan from a reference entry (R153). -/
def forwardOrder (count : Nat) (loop : Bool) : Option Nat → List Nat
  | none => List.range count
  | some r => (List.range count).drop (r + 1) ++ (if loop then (List.range count).take (r + 1) else [])

/-- The order of a backward step from a reference entry (R160). -/
def backwardOrder (count : Nat) (loop : Bool) (r : Nat) : List Nat :=
  ((List.range count).take r).reverse ++ (if loop then ((List.range count).drop (r + 1)).reverse else [])

/-- The forward scan of an advance and its outcome (R153). -/
def advanceScan (ref : Option Nat) (s : State) : State :=
  match scanEntries (forwardOrder s.seq.list.length s.seq.loops ref) s with
  | (some i, s1) => s1.setSeq (s1.seq.aim i)
  | (none, s1) =>
    if s.seq.loops then endRun .empty .ended (s1.raise (.emptyRun ref s.seq.list.length)) else endRun .finish .ended s1

/-- An advance, counted in DRAINING against the drain remaining (R153, R154). -/
def advanceFrom (ref : Option Nat) (s : State) : State :=
  if s.seq.run = .draining then
    if s.seq.drain = 0 then endRun .drained .ended s
    else advanceScan ref (s.setSeq { s.seq with drain := s.seq.drain - 1 })
  else advanceScan ref s

/-- An advance from the reference entry (R153). -/
def advance (s : State) : State := advanceFrom s.seq.reference s

/-- A backward step: the first eligible entry before the reference entry becomes the target (R160). -/
def backStep (s : State) : State :=
  match s.seq.reference with
  | none => s
  | some r =>
    match scanEntries (backwardOrder s.seq.list.length s.seq.loops r) s with
    | (some i, s1) => s1.setSeq (s1.seq.aim i)
    | (none, s1) => s1

/-! ### Triggers -/

/-- A run starts with a start scan from entry e (R151, R153). -/
def startRun (by_ : StartedBy) (e : Nat) (s : State) : State :=
  match scanEntries (startOrder s.seq.list.length s.seq.loops e) (s.setSeq { s.seq with run := .running }) with
  | (some i, s1) => (s1.setSeq { s1.seq.aim i with drain := 0 }).raise (.started i by_)
  | (none, s1) => endRun .empty .ended (s1.raise (.emptyRun (some e) s.seq.list.length))

/-- A start trigger that counts; e is the button's entry, or 0 (R151). -/
def startTrigger (by_ : StartedBy) (e : Nat) (s : State) : State :=
  match s.seq.run with
  | .idle | .running | .held | .draining => s
  | .armed => startRun by_ e s
  | .ended => if s.seq.config.endMode = .once then s else startRun by_ 0 s

/-- A stop trigger that counts (R152). -/
def stopTrigger (s : State) : State :=
  match s.seq.run with
  | .idle | .armed | .ended | .draining => s
  | .running | .held =>
    if s.seq.config.drainCount = 0 then endRun .stop .ended s
    else s.setSeq { s.seq with run := .draining, drain := s.seq.config.drainCount }

/-- A start trigger of source BUTTON, which counts when the start source is BUTTON (R148). -/
def buttonStart (e : Nat) (s : State) : State :=
  if s.seq.config.startKind = .button then startTrigger .button e s else s

/-- A stop trigger of source BUTTON, which counts when the stop source is BUTTON (R148). -/
def buttonStop (s : State) : State := if s.seq.config.stopKind = .button then stopTrigger s else s

/-- A condition turns true with a change of flags (R150). -/
def MaskCompare.turnsTrue (m : MaskCompare) (before after : Half) : Bool := !m.holds before && m.holds after

/-- The "flags changed" notice (R150). The stop trigger is judged against the run state the notice found. -/
def flagsNotice (new : Half) (s : State) : State :=
  let old := s.seq.flagsCopy
  let c := s.seq.config
  let s1 := s.setSeq { s.seq with flagsCopy := new }
  let s2 := if c.startKind = .flags ∧ c.startCond.turnsTrue old new then startTrigger .flags 0 s1 else s1
  if c.stopKind = .flags ∧ c.stopCond.turnsTrue old new ∧ s.seq.run.isRunning then stopTrigger s2 else s2

/-! ### The frame end (R161) -/

/-- The expiry of a dwell: the dwell becomes absent and an advance is made (R159). -/
def expireDwell (s : State) : State := advance (s.setSeq { s.seq with dwell := .absent })

/-- Step 1: a COUNTING dwell is counted in RUNNING and DRAINING (R159). -/
def countDwell (s : State) : State :=
  if s.seq.run = .running ∨ s.seq.run = .draining then
    match s.seq.dwell with
    | .counting n => if n ≤ 1 then expireDwell s else s.setSeq { s.seq with dwell := .counting (n - 1) }
    | .absent | .entering | .still => s
  else s

/-- The page of an entry of the list. -/
def Sequencer.pageOf (q : Sequencer) (i : Nat) : Option PageId := q.list[i]?.map SlideEntry.page

/-- Every placement of the page's current definition names an object that counts as ready (R155). -/
def pageReady (s : State) (p : PageId) : Bool :=
  (s.engine.page p).cur.placements.all fun x => (s.store.slot x.obj).countsReady

/-- The target's page is ready (R155). -/
def targetReady (t : Target) (s : State) : Bool :=
  match s.seq.pageOf t.entry with
  | some p => pageReady s p
  | none => true

/-- The target moves to stage READY (R155). -/
def markReady (t : Target) (s : State) : State := s.setSeq { s.seq with target := some { t with ready := true } }

/-- LATE-SLIDE: the wait count reaches 300 and the target moves to stage READY (R155). -/
def lateTarget (t : Target) (s : State) : State :=
  let s1 := match s.seq.pageOf t.entry with
    | some p => s.raise (.lateSlide t.entry p)
    | none => s
  s1.setSeq { s1.seq with target := some { t with ready := true, wait := Config.maxWait } }

/-- Step 2: a READYING target is tested for readiness (R155). -/
def testTarget (s : State) : State :=
  match s.seq.target with
  | none => s
  | some t =>
    if t.ready then s
    else if targetReady t s then markReady t s
    else if Config.maxWait ≤ t.wait + 1 then lateTarget t s
    else s.setSeq { s.seq with target := some { t with wait := t.wait + 1 } }

/-- A TIME start source is due in ARMED (R150). -/
def timeDue (s : State) : Bool :=
  s.seq.run == .armed && s.seq.config.startKind == .time && isDue s.engine.fc s.seq.config.startTime

/-- Step 3: the time trigger (R150). -/
def testTime (s : State) : State := if timeDue s then startTrigger .time 0 s else s

/-- The schedule entry of a slide (R156). -/
def slideShow (e : SlideEntry) : ShowEntry :=
  { ctx := .slide, page := some e.page, time := none, trans := e.trans, origin := .sequencer, restore := none,
    late := false }

/-- Step 4: a READY target is inserted and becomes the placed entry (R156). -/
def insertTarget (s : State) : State :=
  match s.seq.target with
  | none => s
  | some t =>
    if t.ready then
      match s.seq.list[t.entry]? with
      | none => s
      | some e =>
        match insertEntry (slideShow e) s with
        | (true, s1) => s1.setSeq { s1.seq with target := none, placed := some { entry := t.entry, page := e.page } }
        | (false, s1) => s1
    else s

/-- The four steps of the sequencer's frame end (R161). -/
def sequencerEnd (s : State) : State := insertTarget (testTime (testTarget (countDwell s)))

/-! ### Notices of the composition engine -/

/-- The dwell that begins for an entry shown on page p (R157). -/
def Sequencer.dwellOnShow (q : Sequencer) (i : Nat) (p : PageId) : Dwell :=
  if (q.list[i]?.map SlideEntry.trans).getD .cut = .cut ∨ q.slidePage = some p then dwellFor (q.durationOf i)
  else .entering

/-- "Page shown (SLIDE, p)" (R157). -/
def slideShown (p : PageId) (s : State) : State :=
  match s.seq.placed with
  | none => s.setSeq { s.seq with slidePage := some p }
  | some x =>
    let q := s.seq
    let dwell := if q.run.isRunning ∧ q.target = none then q.dwellOnShow x.entry p else q.dwell
    let s1 := s.setSeq { q with shown := some x.entry, placed := none, dwell := dwell, slidePage := some p }
    match q.list[x.entry]?.bind SlideEntry.cue with
    | some c => s1.raise (.cue x.entry c)
    | none => s1

/-- "Transition complete (SLIDE)" (R157). -/
def slideComplete (s : State) : State :=
  match s.seq.dwell with
  | .entering => s.setSeq { s.seq with dwell := dwellFor (s.seq.durationOf (s.seq.shown.getD 0)) }
  | .absent | .counting _ | .still => s

/-- "Page hidden (SLIDE)" (R157). -/
def slideHidden (s : State) : State := s.setSeq { s.seq with slidePage := none }

/-- "Show not applied" (R158). -/
def slideNotApplied (s : State) : State :=
  match s.seq.placed with
  | none => s
  | some x =>
    let s1 := s.raise (.entrySkipped x.entry x.page)
    let s2 := s1.setSeq { s1.seq with placed := none }
    if s2.seq.run.isRunning ∧ s2.seq.target = none then advanceFrom (some x.entry) s2 else s2

/-! ### Keys (R160) -/

/-- The keys of the sequencer, from Slide Control and from the navigation unit. -/
inductive SlideKey where
  | pause | resume | pauseResume | next | prev
  deriving DecidableEq, Repr

/-- The state with another run state. -/
def State.setRun (s : State) (r : RunState) : State := s.setSeq { s.seq with run := r }

/-- A key, by the run state (R160). -/
def slideKey (k : SlideKey) (s : State) : State :=
  match s.seq.run with
  | .idle | .armed | .ended => s
  | .running =>
    match k with
    | .pause | .pauseResume => s.setRun .held
    | .resume => s
    | .next => advance s
    | .prev => backStep s
  | .held =>
    match k with
    | .pause => s
    | .resume | .pauseResume => s.setRun .running
    | .next => advance s
    | .prev => backStep s
  | .draining =>
    match k with
    | .next => advance s
    | .pause | .resume | .pauseResume | .prev => s

/-! ### Slide List and Slide Control -/

/-- A valid Slide List in IDLE, ARMED or ENDED (R147). -/
def loadList (g : SlideListSegment) (s : State) : State :=
  s.setSeq { s.seq with list := g.list, config := g.config, shown := none, placed := none,
                        run := if g.arm then .armed else .idle }

/-- The sequencer takes a Slide List (R147). -/
def takeSlideList (body : List Byte) (s : State) : State :=
  match readSlideList body with
  | none => malformed .slideList body s
  | some g => if s.seq.run.isRunning then s.raise .slideBusyList else loadList g s

/-- CONFIGURE (R149). -/
def slideConfigure (c : SlideConfig) (s : State) : State :=
  match s.seq.run with
  | .idle | .ended => s.setSeq { s.seq with config := c }
  | .armed | .running | .held | .draining => s.raise (.slideBusyControl .configure)

/-- ARM (R149). -/
def slideArm (s : State) : State :=
  if s.seq.run.isRunning then s.raise (.slideBusyControl .arm) else s.setRun .armed

/-- DISARM (R149). -/
def slideDisarm (s : State) : State := if s.seq.run.isRunning then endRun .stop .idle s else s.setRun .idle

/-- The sequencer takes a Slide Control (R149). -/
def takeSlideControl (body : List Byte) (s : State) : State :=
  match readSlideControl body with
  | none => malformed .slideControl body s
  | some (.configure c) => slideConfigure c s
  | some .arm => slideArm s
  | some .disarm => slideDisarm s
  | some .start => startTrigger .command 0 s
  | some .stop => stopTrigger s
  | some .pause => slideKey .pause s
  | some .resume => slideKey .resume s
  | some .next => slideKey .next s
  | some .prev => slideKey .prev s

/-- The sequencer after a valid Set Open (R163): the configuration and the flags copy are kept. -/
def Sequencer.setOpen (q : Sequencer) : Sequencer :=
  { Sequencer.reset with config := q.config, flagsCopy := q.flagsCopy }

end Sys2Proof.Machine
end

