-- ==== Sys2Proof/Machine/Navigation.lean ====
section
/-! DEFINITION. The navigation unit (chapter 7): flags, button states and playheads, notices, keys, page stacks and
actions, and the navigation frame end. -/

namespace Sys2Proof.Machine

open Sys2Proof

/-! ### The flags word -/

/-- The flags word takes a value: a change sets the mark and sends "flags changed" to the sequencer (R118). -/
def writeFlags (new : Half) (s : State) : State :=
  if new = s.nav.flags then s
  else flagsNotice new (s.setNav { s.nav with flags := new, flagsChanged := true })

/-- The navigation unit takes a Flags segment (R117). -/
def takeFlags (body : List Byte) (s : State) : State :=
  match readFlags body with
  | none => malformed .flags body s
  | some (set, clear) => writeFlags (applyMasks s.nav.flags set clear) s

/-! ### Tables of the navigation page -/

/-- The current definition of a navigation state's page; blank where it has none. -/
def navDef (s : State) (c : NavCtx) : PageDef :=
  match (s.nav.get c).page with
  | some p => (s.engine.page p).cur
  | none => .blank

/-! ### States and playheads -/

/-- The state that a button's condition gives it when it is neither selected nor activating (R123, R124). -/
def Button.restState (b : Button) (flags : Half) : ButtonState :=
  if b.condHolds flags then .normal
  else match b.mode with
    | .showIf => .hidden
    | .enableIf => .disabled
    | .none => .normal

/-- The visual of a button in a state (R124). -/
def Button.visual (b : Button) : ButtonState → Visual
  | .hidden => .keep
  | .disabled => if b.disabled = .keep then b.normal else b.disabled
  | .normal => b.normal
  | .selected => b.selected
  | .activating => b.activated

/-- The playhead of a button that enters a state (R126). `fresh` marks it as restarted in this frame end. -/
def startHead (anims : List Animation) (v : Visual) (fresh : Bool) : Option Playhead :=
  match v with
  | .animation ix =>
    match anims[ix]? with
    | some a => some { entry := 0, left := (a.entries[0]?.map AnimEntry.hold).getD 0, fresh := fresh }
    | none => none
  | .keep | .object _ => none

/-- A button as it enters a state: its playhead restarts or becomes absent (R126). -/
def enterState (anims : List Animation) (b : Button) (x : ButtonState) (fresh : Bool) : ButtonNav :=
  { state := x, head := startHead anims (b.visual x) fresh }

/-- A button enters a state within a frame end: a change of state sets the playhead, no change keeps it (R126). -/
def moveButton (d : PageDef) (i : Nat) (x : ButtonState) (n : NavState) : NavState :=
  match d.buttons[i]?, n.buttons[i]? with
  | some b, some old =>
    if old.state = x then n else { n with buttons := n.buttons.set i (enterState d.animations b x true) }
  | _, _ => n

/-- A state that lets a button be selected (R123): the last evaluation found its condition true. -/
def ButtonState.selectable : ButtonState → Bool
  | .normal | .selected | .activating => true
  | .hidden | .disabled => false

/-- Button i exists and the last evaluation found its condition true (R123). -/
def NavState.selectable (n : NavState) (i : Nat) : Bool := (n.buttons[i]?.map fun b => b.state.selectable).getD false

/-- Button i exists in the table and its condition is true (R123). -/
def PageDef.selectable (d : PageDef) (flags : Half) (i : Nat) : Bool :=
  (d.buttons[i]?.map fun b => b.condHolds flags).getD false

/-- The lowest id below the button count that satisfies `p`. -/
def lowest (n : NavState) (p : Nat → Bool) : Option Nat := (List.range n.buttons.length).find? p

/-! ### Notices of the composition engine -/

/-- A candidate id if it is selectable (R128, R130). -/
def PageDef.pick (d : PageDef) (flags : Half) (i : Option Nat) : Option Nat := i.filter (d.selectable flags)

/-- Every button's state and playhead, given the selected and the activating button (R128 step 5, R130). -/
def freshButtons (d : PageDef) (flags : Half) (sel act : Option Nat) : List ButtonNav :=
  mapAt (fun i b =>
    enterState d.animations b
      (if act = some i then .activating else if sel = some i then .selected else b.restState flags) false)
    0 d.buttons

/-- "Page shown (c, p, restore button)" (R128). -/
def navShown (c : NavCtx) (p : PageId) (restore : Option Nat) (s : State) : State :=
  let d := (s.engine.page p).cur
  let sel := (d.pick s.nav.flags restore).or (d.pick s.nav.flags d.defaultButton)
  s.setNavState c { page := some p, buttons := freshButtons d s.nav.flags sel none, selected := sel,
                    activation := none, stack := (s.nav.get c).stack }

/-- "Page hidden (c)" (R129): everything but the page stack is cleared. -/
def navHidden (c : NavCtx) (s : State) : State :=
  s.setNavState c { NavState.reset with stack := (s.nav.get c).stack }

/-- "Page redefined (p)" for one context (R130). -/
def navRedefinedIn (c : NavCtx) (p : PageId) (s : State) : State :=
  let n := s.nav.get c
  if n.page = some p then
    let d := (s.engine.page p).cur
    let sel := (d.pick s.nav.flags n.selected).or (d.pick s.nav.flags d.defaultButton)
    let act := n.activation.filter fun a => d.selectable s.nav.flags a.button
    (s.setNav { s.nav with redefined := true }).setNavState c
      { n with buttons := freshButtons d s.nav.flags sel (act.map Activation.button), selected := sel,
               activation := act }
  else s

/-- "Page redefined (p)" (R130). -/
def navRedefined (p : PageId) (s : State) : State := navRedefinedIn .popup p (navRedefinedIn .menu p s)

/-! ### Schedule entries of the navigation unit -/

/-- An entry of origin NAVIGATION without T (R83, R141). -/
def navShow (c : NavCtx) (p : Option PageId) (t : Transition) (restore : Option Nat) : ShowEntry :=
  { ctx := ctxOf c, page := p, time := none, trans := t, origin := .navigation, restore := restore, late := false }

/-- A push onto a page stack: the oldest of 8 entries is dropped first (R140). -/
def pushStack (x : PageId × Option Nat) (st : List (PageId × Option Nat)) : List (PageId × Option Nat) :=
  (if Config.maxStack ≤ st.length then st.tail else st) ++ [x]

/-- The state with another page stack. -/
def State.setStack (s : State) (c : NavCtx) (st : List (PageId × Option Nat)) : State :=
  s.setNavState c { s.nav.get c with stack := st }

/-- A change of page is inserted and, if accepted, the context's stack is changed (R141). -/
def insertWith (c : NavCtx) (e : ShowEntry) (stack : List (PageId × Option Nat)) (s : State) : State :=
  match insertEntry e s with
  | (true, s1) => s1.setStack c stack
  | (false, s1) => s1

/-- BACK by key or by action (R139, R141). -/
def goBack (c : NavCtx) (t : Transition) (s : State) : State :=
  let n := s.nav.get c
  match n.stack.getLast? with
  | some (p, b) => insertWith c (navShow c (some p) t b) n.stack.dropLast s
  | none =>
    match c with
    | .menu => s.raise (.stackEmpty .menu n.page)
    | .popup => (insertEntry (navShow .popup none t none) s).2

/-- CLOSE (R141). -/
def closeContext (c : NavCtx) (t : Transition) (s : State) : State := insertWith c (navShow c none t none) [] s

/-- GOTO (R141): the navigation page and selected button are pushed if the insertion is accepted. -/
def goTo (c : NavCtx) (q : PageId) (t : Transition) (s : State) : State :=
  let n := s.nav.get c
  let stack := match n.page with
    | some p => pushStack (p, n.selected) n.stack
    | none => n.stack
  insertWith c (navShow c (some q) t none) stack s

/-- SET-FLAGS (R141): FLAGS-CHANGED, and then the flags word as for a Flags segment. What the sequencer raises on "flags
changed" (R150) so stands after FLAGS-CHANGED. DESIGN CHOICE (log entry 29): R168 does not order these reports of two
blocks. -/
def setFlagsAction (set clear : Half) (s : State) : State :=
  let new := applyMasks s.nav.flags set clear
  if new = s.nav.flags then s else writeFlags new (s.raise (.flagsChanged new))

/-- An action is performed in its context (R141). -/
def performAction (c : NavCtx) (a : Action) (s : State) : State :=
  match a with
  | .none => s
  | .goto q t => goTo c q t s
  | .replace q t => (insertEntry (navShow c (some q) t none) s).2
  | .back t => goBack c t s
  | .close t => closeContext c t s
  | .slidesStart e => buttonStart e s
  | .slidesStop => buttonStop s
  | .setFlags set clear => setFlagsAction set clear s

/-- A button's action executes: ACTION if it has a notify code, then the action (R141). -/
def executeAction (c : NavCtx) (i : Nat) (s : State) : State :=
  match (navDef s c).buttons[i]? with
  | none => s
  | some b =>
    let s1 := match b.notify with
      | some n => s.raise (.action (s.nav.get c).page i n)
      | none => s
    performAction c b.action s1

/-! ### Activation -/

/-- An activation ends: the button returns to SELECTED and its action executes (R134, R138). -/
def finishActivation (c : NavCtx) (i : Nat) (s : State) : State :=
  let n := moveButton (navDef s c) i .selected (s.nav.get c)
  executeAction c i (s.setNavState c { n with activation := none })

/-- A button is activated with the page's activation hold; a hold of 0 ends at once (R138). -/
def activate (c : NavCtx) (i : Nat) (s : State) : State :=
  let d := navDef s c
  let n := moveButton d i .activating (s.nav.get c)
  let s1 := s.setNavState c { n with activation := some { button := i, left := d.hold } }
  if d.hold = 0 then finishActivation c i s1 else s1

/-- The activation of one context counts down (R134). -/
def countActivation (c : NavCtx) (s : State) : State :=
  let n := s.nav.get c
  match n.activation with
  | none => s
  | some a =>
    if a.left ≤ 1 then finishActivation c a.button s
    else s.setNavState c { n with activation := some { a with left := a.left - 1 } }

/-! ### Step 1: conditions (R133) -/

/-- A button's state after an evaluation: a false condition hides or disables it, one turned true makes it NORMAL. -/
def Button.evaluated (b : Button) (flags : Half) (x : ButtonState) : ButtonState :=
  if b.condHolds flags then (if x.selectable then x else .normal) else b.restState flags

/-- Button i after an evaluation of its condition. -/
def evaluateButton (d : PageDef) (flags : Half) (i : Nat) (n : NavState) : NavState :=
  match d.buttons[i]?, n.buttons[i]? with
  | some b, some x => moveButton d i (b.evaluated flags x.state) n
  | _, _ => n

/-- The selection moves to the lowest-id selectable button if the selected one is no longer selectable (R133). -/
def repairSelection (d : PageDef) (n : NavState) : NavState :=
  match n.selected with
  | none => n
  | some i =>
    if n.selectable i then n
    else match lowest n n.selectable with
      | some j => { moveButton d j .selected n with selected := some j }
      | none => { n with selected := none }

/-- The conditions of one context are evaluated (R133). -/
def evaluateNav (d : PageDef) (flags : Half) (n : NavState) : NavState :=
  let n1 := (List.range n.buttons.length).foldl (fun n i => evaluateButton d flags i n) n
  let n2 := { n1 with activation := n1.activation.filter fun a => n1.selectable a.button }
  repairSelection d n2

/-- The conditions of one context are evaluated in the state. -/
def evaluateIn (c : NavCtx) (s : State) : State :=
  s.setNavState c (evaluateNav (navDef s c) s.nav.flags (s.nav.get c))

/-- Step 1 of the frame end: F is taken, and marked conditions are evaluated (R133). -/
def evaluateConditions (s : State) : State :=
  let marked := s.nav.flagsChanged || s.nav.redefined
  let s1 := s.setNav { s.nav with resting := s.nav.flags, flagsChanged := false, redefined := false }
  if marked then evaluateIn .popup (evaluateIn .menu s1) else s1

/-! ### Step 3: one key (R135 to R139) -/

/-- The POPUP key (R135). -/
def popupKey (s : State) : State :=
  match s.nav.popup.page with
  | some _ => insertWith .popup (navShow .popup none .cut none) [] s
  | none =>
    match s.engine.popupPage with
    | some p => (insertEntry (navShow .popup (some p) .cut none) s).2
    | none => s

/-- The focus context of a key other than POPUP; none for SLIDE focus (R136). -/
def focus (s : State) : Option NavCtx :=
  if s.nav.popup.page.isSome then some .popup
  else if s.nav.menu.page.isSome ∧ (navDef s .menu).buttons ≠ [] then some .menu
  else none

/-- A key in SLIDE focus (R136). -/
def slideFocusKey (k : Key) (s : State) : State :=
  match k with
  | .right => slideKey .next s
  | .left => slideKey .prev s
  | .ok => slideKey .pauseResume s
  | .up | .down | .back | .number | .popup => s

/-- A button's neighbour in a direction (R119). -/
def Button.neighbour (b : Button) : Direction → Option Nat
  | .up => b.up
  | .down => b.down
  | .left => b.left
  | .right => b.right

/-- The search from button `at_`, with the hops that are left, for the move of start button `start` (R137). -/
def searchMove (d : PageDef) (n : NavState) (dir : Direction) (start : Nat) : Nat → Nat → Option Nat
  | 0, _ => none
  | hops + 1, at_ =>
    match d.buttons[at_]?.bind fun b => b.neighbour dir with
    | none => none
    | some j =>
      if d.buttons.length ≤ j ∨ j = start then none
      else if n.selectable j then some j
      else searchMove d n dir start hops j

/-- The button that an arrow key moves to, if any (R137). -/
def arrowTarget (d : PageDef) (n : NavState) (dir : Direction) : Option Nat :=
  match n.selected with
  | none => lowest n n.selectable
  | some i => searchMove d n dir i Config.maxHops i

/-- Button j becomes selected and the previous selection NORMAL (R137, R138). -/
def selectButton (d : PageDef) (j : Nat) (n : NavState) : NavState :=
  let n1 := match n.selected with
    | some i => if i = j then n else moveButton d i .normal n
    | none => n
  { moveButton d j .selected n1 with selected := some j }

/-- Button j becomes selected in the state. -/
def selectIn (c : NavCtx) (j : Nat) (s : State) : State :=
  s.setNavState c (selectButton (navDef s c) j (s.nav.get c))

/-- An arrow key (R137). -/
def arrowKey (c : NavCtx) (dir : Direction) (s : State) : State :=
  let d := navDef s c
  match arrowTarget d (s.nav.get c) dir with
  | none => s
  | some j =>
    let s1 := selectIn c j s
    if (d.buttons[j]?.map Button.auto).getD false then activate c j s1 else s1

/-- OK (R138). -/
def okKey (c : NavCtx) (s : State) : State :=
  match (s.nav.get c).selected with
  | some i => activate c i s
  | none => s

/-- NUMBER n (R138). -/
def numberKey (c : NavCtx) (k : Nat) (s : State) : State :=
  let d := navDef s c
  let n := s.nav.get c
  match lowest n (fun i => n.selectable i && (d.buttons[i]?.bind Button.number == some k)) with
  | some j => activate c j (selectIn c j s)
  | none => s

/-- A key other than POPUP in MENU or POPUP focus; it is discarded while an activation is in progress (R135). -/
def contextKey (c : NavCtx) (e : KeyEntry) (s : State) : State :=
  if (s.nav.get c).activation.isSome then s
  else
    match e.key with
    | .up => arrowKey c .up s
    | .down => arrowKey c .down s
    | .left => arrowKey c .left s
    | .right => arrowKey c .right s
    | .ok => okKey c s
    | .back => goBack c .cut s
    | .number => numberKey c e.number.toNat s
    | .popup => s

/-- A key taken from the queue is handled (R135, R136). -/
def handleKey (e : KeyEntry) (s : State) : State :=
  if e.key = .popup then popupKey s
  else match focus s with
    | some c => contextKey c e s
    | none => slideFocusKey e.key s

/-- Step 3 of the frame end: the oldest key is removed and handled (R135). -/
def takeOneKey (s : State) : State :=
  match s.nav.keys with
  | [] => s
  | e :: rest => handleKey e (s.setNav { s.nav with keys := rest })

/-! ### Step 4: playheads (R126) -/

/-- A playhead whose remaining hold runs out moves on: to the next entry, to entry 0 of a LOOP, or stops on the last
entry of a ONCE (R126). -/
def Playhead.moveOn (a : Animation) (h : Playhead) : Playhead :=
  match a.entries[h.entry + 1]? with
  | some e => { h with entry := h.entry + 1, left := e.hold }
  | none =>
    match a.mode with
    | .loop => { h with entry := 0, left := (a.entries[0]?.map AnimEntry.hold).getD 0 }
    | .once => { h with left := 0 }

/-- One step of a playhead (R126); a remaining hold of 0 takes no further steps. -/
def Playhead.step (a : Animation) (h : Playhead) : Playhead :=
  if h.fresh then { h with fresh := false }
  else if h.left = 0 then h
  else if h.left = 1 then h.moveOn a
  else { h with left := h.left - 1 }

/-- The animation that a button's present visual plays (R126). -/
def animationOf (d : PageDef) (i : Nat) (x : ButtonState) : Option Animation :=
  match d.buttons[i]? with
  | none => none
  | some b =>
    match b.visual x with
    | .animation ix => d.animations[ix]?
    | .keep | .object _ => none

/-- A button with its playhead changed by `f`, which is given the animation it plays. -/
def ButtonNav.mapHead (d : PageDef) (i : Nat) (f : Animation → Playhead → Playhead) (b : ButtonNav) : ButtonNav :=
  match b.head, animationOf d i b.state with
  | some h, some a => { b with head := some (f a h) }
  | _, _ => b

/-- Every playhead of one context steps (R126). -/
def stepHeads (d : PageDef) (n : NavState) : NavState :=
  { n with buttons := mapAt (fun i b => b.mapHead d i Playhead.step) 0 n.buttons }

/-- Every playhead of one context steps, in the state. -/
def stepHeadsIn (c : NavCtx) (s : State) : State := s.setNavState c (stepHeads (navDef s c) (s.nav.get c))

/-- The marks "restarted in this frame end" cleared in one context (log entries 8 and 30). -/
def NavState.clearFresh (n : NavState) : NavState :=
  { n with buttons := n.buttons.map fun b => { b with head := b.head.map fun h => { h with fresh := false } } }

/-- The marks "restarted in this frame end" cleared, as a frame end begins (log entry 8). A playhead that an
ACTIVATION_EXPIRY given alone has restarted loses its mark here too, and step 4 counts it: DESIGN CHOICE (log entry 30). -/
def clearFresh (s : State) : State :=
  s.setNav { s.nav with menu := s.nav.menu.clearFresh, popup := s.nav.popup.clearFresh }

/-- The four steps of the navigation frame end, MENU before POPUP (R132), which step every playhead but those that these
steps restart (R126, log entries 8 and 30). -/
def navEnd (s : State) : State :=
  stepHeadsIn .popup (stepHeadsIn .menu (takeOneKey (countActivation .popup (countActivation .menu
    (evaluateConditions (clearFresh s))))))

/-! ### Key segments -/

/-- A valid key goes to the key queue (R131). -/
def queueKey (e : KeyEntry) (s : State) : State :=
  if e.rep ∧ s.nav.keys ≠ [] then s
  else if s.nav.keys.length < Config.maxKeys then s.setNav { s.nav with keys := s.nav.keys ++ [e] }
  else s.raise (.keyDropped e.key e.number)

/-- The navigation unit takes a Key segment (R131). -/
def takeKey (body : List Byte) (s : State) : State :=
  match readKey body with
  | none => malformed .key body s
  | some e => queueKey e s

/-- The navigation unit after a valid Set Open (R116, R127, R131). -/
def Nav.setOpen (n : Nav) : Nav := { Nav.reset with flags := n.flags, resting := n.resting }

end Sys2Proof.Machine
end

