-- ==== Sys2Proof/Machine/CompositionEngine.lean ====
section
/-! DEFINITION. The composition engine (chapter 5): Clock, definition segments, Scroll, Show, and the frame start with
its transitions, schedule resolution and live reference set. -/

namespace Sys2Proof.Machine

open Sys2Proof

/-! ### Clock (R68) -/

/-- The composition engine takes a Clock segment (R68). Where the palette unit has taken the present frame start already,
the Clock has come after that frame start (log entry 5). -/
def takeClock (body : List Byte) (s : State) : State :=
  match readClock body with
  | none => malformed .clock body s
  | some t => (s.setEngine { s.engine with pendingClock := some t }).setSkew s.skew.clockTook

/-! ### Pages in use (R75, R80) -/

/-- The pages a context holds: showing, incoming, outgoing (R75). -/
def CtxState.pages : CtxState → List PageId
  | .empty => []
  | .showing p => [p]
  | .transition i o _ _ _ => i.toList ++ o.toList

/-- The page a context presents (R80). -/
def CtxState.presented : CtxState → Option PageId
  | .empty => none
  | .showing p => some p
  | .transition i _ _ _ _ => i

/-- Every page in use, SLIDE first (R75). -/
def Contexts.pages (c : Contexts) : List PageId := c.slide.pages ++ c.menu.pages ++ c.popup.pages

/-- A page is in use (R75). -/
def Engine.inUse (e : Engine) (p : PageId) : Bool := p ∈ e.contexts.pages

/-! ### Definition segments (R75, R76) -/

/-- A definition segment for p is staged: p is in use or holds a pending definition (R76). -/
def Engine.stages (e : Engine) (p : PageId) : Bool := e.inUse p || (e.page p).waiting.isSome

/-- A page record after a definition segment that is applied at once (R75). -/
def Page.applyNow (f : PageDef → PageDef) (x : Page) : Page := { x with defined := true, cur := f x.cur }

/-- A page record after a definition segment joins its pending definition, which is made from the current one where there
is none (R76). -/
def Page.join (f : PageDef → PageDef) (final : Bool) (x : Page) : Page :=
  let w := x.waiting.getD { body := x.cur, final := false }
  { x with waiting := some { body := f w.body, final := w.final || final } }

/-- A definition segment for p: applied at once, or added to the pending definition (R75, R76). -/
def Engine.define (e : Engine) (p : PageId) (f : PageDef → PageDef) (final : Bool) : Engine :=
  e.setPage p (if e.stages p then (e.page p).join f final else (e.page p).applyNow f)

/-- What a Page segment replaces: the placement list, the default button and the activation hold, with empty tables. -/
def PageSegment.edit (g : PageSegment) (_ : PageDef) : PageDef :=
  { placements := g.placements, defaultButton := g.defaultButton, hold := g.hold, buttons := [], animations := [] }

/-- The composition engine takes a Page segment (R74). -/
def takePage (body : List Byte) (s : State) : State :=
  match readPage body with
  | none => malformed .page body s
  | some g => s.setEngine (s.engine.define g.page g.edit g.final)

/-- The placement count that a Buttons segment for p is checked against; none for an undefined page (R76, R121). -/
def Engine.placementCount (e : Engine) (p : PageId) : Option Nat :=
  if (e.page p).defined then
    some (match (e.page p).waiting with
      | some w => w.body.placements.length
      | none => (e.page p).cur.placements.length)
  else none

/-- The navigation unit takes a Buttons segment and hands it to the engine (R121). -/
def takeButtons (body : List Byte) (s : State) : State :=
  match readButtons s.engine.placementCount body with
  | none => malformed .buttons body s
  | some g => s.setEngine (s.engine.define g.page (fun d => { d with buttons := g.buttons }) g.final)

/-- The navigation unit takes an Animations segment and hands it to the engine (R122). -/
def takeAnimations (body : List Byte) (s : State) : State :=
  match readAnimations (fun p => (s.engine.page p).defined) body with
  | none => malformed .animations body s
  | some g => s.setEngine (s.engine.define g.page (fun d => { d with animations := g.animations }) g.final)

/-! ### Scroll (R78, R79) -/

/-- A placement with its window's origin set; a placement with no window gains one (R78). -/
def Placement.scrollTo (wx wy : Half) (x : Placement) : Placement :=
  { x with window := some (match x.window with
      | some w => { w with wx := wx, wy := wy }
      | none => { wx := wx, wy := wy, ww := 0xFFFF, wh := 0xFFFF }) }

/-- A definition after a scroll; an index beyond the list changes nothing (R78, R79). -/
def PageDef.scroll (g : Scroll) (d : PageDef) : PageDef :=
  match d.placements[g.index]? with
  | some x => { d with placements := d.placements.set g.index (x.scrollTo g.wx g.wy) }
  | none => d

/-- The engine after a scroll of a page's current definition (R78, R79). -/
def Engine.applyScroll (e : Engine) (g : Scroll) : Engine :=
  e.setPage g.page { e.page g.page with cur := (e.page g.page).cur.scroll g }

/-- A scroll is staged and replaces one staged for the same page and placement (R78). -/
def stageScroll (g : Scroll) (l : List Scroll) : List Scroll :=
  (l.filter fun x => !(x.page == g.page && x.index == g.index)) ++ [g]

/-- The page is defined and the index lies within its current definition (R78). -/
def Engine.scrollable (e : Engine) (g : Scroll) : Bool :=
  (e.page g.page).defined && decide (g.index < (e.page g.page).cur.placements.length)

/-- The composition engine takes a Scroll segment (R78). -/
def takeScroll (body : List Byte) (s : State) : State :=
  match readScroll body with
  | none => malformed .scroll body s
  | some g =>
    if s.engine.scrollable g then
      if s.engine.inUse g.page then s.setEngine { s.engine with staged := stageScroll g s.engine.staged }
      else s.setEngine (s.engine.applyScroll g)
    else malformed .scroll body s

/-! ### Show (R82) -/

/-- The composition engine takes a Show segment (R82). -/
def takeShow (body : List Byte) (s : State) : State :=
  match readShow body with
  | none => malformed .showPage body s
  | some e => if e.ctx = .slide ∧ s.seq.run.isRunning then s.raise .slideBusyShow else (insertEntry e s).2

/-! ### Notices (R89) -/

/-- "Transition complete (c)": the sequencer acts on it for SLIDE; it changes no navigation state (R129). -/
def noticeComplete (c : Ctx) (s : State) : State :=
  match c with
  | .slide => slideComplete s
  | .menu | .popup => s

/-- "Page shown" or "page hidden" for a context. -/
def noticeShown (c : Ctx) (p : Option PageId) (restore : Option Nat) (s : State) : State :=
  match c, p with
  | .slide, some p => slideShown p s
  | .slide, none => slideHidden s
  | .menu, some p => navShown .menu p restore s
  | .menu, none => navHidden .menu s
  | .popup, some p => navShown .popup p restore s
  | .popup, none => navHidden .popup s

/-- "Show not applied", for an entry of origin SEQUENCER. -/
def noticeNotApplied (e : ShowEntry) (s : State) : State :=
  if e.origin = .sequencer then slideNotApplied s else s

/-! ### The frame start, step by step (R84) -/

/-- Step 1: FC is moved on, and the copy of W is taken (R67, R92). A Clock taken after the palette unit took this frame
start stays pending (R68, log entry 5). -/
def moveClock (s : State) : State :=
  s.setEngine { s.engine with fc := s.engineStartFc, pendingClock := s.clockLeft, rasterW := s.mixer.width }

/-- A pending definition with its final mark set is applied to page p; "page redefined" if p is in use (R77). -/
def applyPending (p : PageId) (s : State) : State :=
  match (s.engine.page p).waiting with
  | none => s
  | some w =>
    if w.final then
      let s1 := s.setEngine (s.engine.setPage p { defined := true, cur := w.body, waiting := none })
      if s.engine.inUse p then navRedefined p s1 else s1
    else s

/-- Step 2: pending definitions, in ascending order of page id (R77). -/
def applyAllPending (s : State) : State := (List.finRange Config.numPages).foldl (fun s p => applyPending p s) s

/-- Step 3: staged scrolls are applied and discarded (R79). -/
def applyScrolls (s : State) : State :=
  s.setEngine { s.engine.staged.foldl Engine.applyScroll s.engine with staged := [] }

/-- What a context shows a page as: SHOWING, or EMPTY for none (R80). -/
def showState : Option PageId → CtxState
  | some p => .showing p
  | none => .empty

/-- The state with one display context replaced. -/
def State.setCtx (s : State) (c : Ctx) (x : CtxState) : State := s.setEngine (s.engine.setCtx c x)

/-- A transition ends: the incoming page shows and "transition complete" is sent (R85). -/
def endTransition (c : Ctx) (s : State) : State :=
  match s.engine.contexts.get c with
  | .transition i _ _ _ _ => noticeComplete c (s.setCtx c (showState i))
  | .empty | .showing _ => s

/-- Step 4 for one context: the step rises by 1, and a transition that reaches N + 1 ends (R85). -/
def stepContext (c : Ctx) (s : State) : State :=
  match s.engine.contexts.get c with
  | .transition i o k n j => if n ≤ j then endTransition c s else s.setCtx c (.transition i o k n (j + 1))
  | .empty | .showing _ => s

/-- Step 4: every context in TRANSITION advances (R85). -/
def stepContexts (s : State) : State := stepContext .popup (stepContext .menu (stepContext .slide s))

/-- An entry is due: its T is due, or it has none (R86). -/
def ShowEntry.due (fc : FrameCount) (e : ShowEntry) : Bool :=
  match e.time with
  | some t => isDue fc t
  | none => true

/-- An entry's lateness; 0 for an entry without T (R86). -/
def ShowEntry.lateness (fc : FrameCount) (e : ShowEntry) : Nat :=
  match e.time with
  | some t => Sys2Proof.Machine.lateness fc t
  | none => 0

/-- The better of two due entries of one context, the second inserted later: the smaller lateness, and among equals the
later insertion (R86). -/
def better (fc : FrameCount) (a b : Nat × ShowEntry) : Nat × ShowEntry :=
  if b.2.lateness fc ≤ a.2.lateness fc then b else a

/-- The winner of a context among the due entries, each with its place in the order of insertion (R86). -/
def winner (fc : FrameCount) (c : Ctx) (due : List (Nat × ShowEntry)) : Option (Nat × ShowEntry) :=
  (due.filter fun x => x.2.ctx = c).foldl
    (fun best x => some (match best with | none => x | some b => better fc b x)) none

/-- The due entries of a schedule with their places in the order of insertion (R86). -/
def dueEntries (e : Engine) : List (Nat × ShowEntry) :=
  (mapAt (fun i x => (i, x)) 0 e.schedule).filter fun x => x.2.due e.fc

/-- One due entry that is not its context's winner: SUPERSEDED, and "show not applied" for the sequencer's (R86). The
notice is sent right after the entry's own SUPERSEDED, so what the sequencer raises on it (ENTRY-SKIPPED, and the reports
of the advance it makes, R158) stands before the SUPERSEDED of the entries inserted later. DESIGN CHOICE (log entry 29):
R168 does not order these reports of two blocks. -/
def supersede (e : ShowEntry) (s : State) : State :=
  noticeNotApplied e (s.raise (.superseded e.ctx e.page e.origin))

/-- The due entries that lose, in order of insertion (R86). -/
def losers (fc : FrameCount) (due : List (Nat × ShowEntry)) : List ShowEntry :=
  (due.filter fun x => (winner fc x.2.ctx due).map Prod.fst ≠ some x.1).map Prod.snd

/-- Step 5: due entries leave the schedule, and the losers are reported (R86). -/
def resolveSchedule (s : State) : State :=
  let due := dueEntries s.engine
  let s1 := s.setEngine { s.engine with schedule := s.engine.schedule.filter fun x => !x.due s.engine.fc }
  (losers s.engine.fc due).foldl (fun s e => supersede e s) s1

/-- The context other than c that holds page p, if any (R87). -/
def otherHolder (cs : Contexts) (c : Ctx) (p : PageId) : Option Ctx :=
  [Ctx.slide, Ctx.menu, Ctx.popup].find? fun d => d ≠ c && p ∈ (cs.get d).pages

/-- Why a winner is refused (R87). -/
inductive Refused where
  | undefinedPage (p : PageId)
  | pageBusy (p : PageId) (holder : Ctx)
  deriving DecidableEq, Repr

/-- The refusal of a winner, if it is refused (R87). -/
def refusalOf (e : ShowEntry) (s : State) : Option Refused :=
  match e.page with
  | none => none
  | some p =>
    if (s.engine.page p).defined then (otherHolder s.engine.contexts e.ctx p).map (.pageBusy p)
    else some (.undefinedPage p)

/-- What a context becomes when a winner is accepted and the context shows `now` (R88, stages 2 and 3). -/
def changeTo (e : ShowEntry) (now : Option PageId) : CtxState :=
  if e.trans.length = 0 ∨ e.page = now then showState e.page
  else .transition e.page now e.trans.fadeKind e.trans.length 1

/-- SHOWN, and LATE if the entry's late flag is set, its lateness cut to 65535 (R88, stage 4). -/
def reportShown (e : ShowEntry) (s : State) : State :=
  let s1 := s.raise (.shown e.ctx e.page)
  if e.late then s1.raise (.late e.ctx e.page (stop16 (e.lateness s.engine.fc))) else s1

/-- An accepted winner takes effect (R88). The CUE that the sequencer raises on the notice stands after SHOWN and LATE, as
the stages of R88 follow each other; that it stands before the reports of the contexts applied later is the model's choice
(DESIGN CHOICE, log entry 29). -/
def acceptWinner (e : ShowEntry) (s : State) : State :=
  let s1 := endTransition e.ctx s
  let s2 := s1.setCtx e.ctx (changeTo e (s1.engine.contexts.get e.ctx).presented)
  noticeShown e.ctx e.page e.restore (reportShown e s2)

/-- A winner is refused or accepted (R87, R88). The notice that a winner of origin SEQUENCER is refused is sent right after
UNDEFINED-PAGE or PAGE-BUSY, so the sequencer's ENTRY-SKIPPED and the reports of the advance it makes (R158) stand after
that report and before those of the contexts applied later. DESIGN CHOICE (log entry 29): R168 does not order these reports
of two blocks. -/
def applyWinner (e : ShowEntry) (s : State) : State :=
  match refusalOf e s with
  | some (.undefinedPage p) => noticeNotApplied e (s.raise (.undefinedPage e.ctx p))
  | some (.pageBusy p h) => noticeNotApplied e (s.raise (.pageBusy e.ctx p h))
  | none => acceptWinner e s

/-- The winner of one context is applied, if there is one. -/
def applyWinnerOf (w : Option (Nat × ShowEntry)) (s : State) : State :=
  match w with
  | some x => applyWinner x.2 s
  | none => s

/-- Steps 5 and 6: the schedule is resolved and the winners are applied, SLIDE, MENU, POPUP (R84, R86, R87). -/
def runSchedule (s : State) : State :=
  let due := dueEntries s.engine
  let fc := s.engine.fc
  applyWinnerOf (winner fc .popup due) (applyWinnerOf (winner fc .menu due) (applyWinnerOf (winner fc .slide due)
    (resolveSchedule s)))

/-- The object id that a visual names (R90). -/
def Visual.named : Visual → List ObjId
  | .object k => [k]
  | .keep | .animation _ => []

/-- The object ids that a definition names (R90). -/
def PageDef.named (d : PageDef) : List ObjId :=
  d.placements.map Placement.obj ++
    d.buttons.flatMap (fun b => b.normal.named ++ b.selected.named ++ b.activated.named ++ b.disabled.named) ++
    d.animations.flatMap (fun a => a.entries.flatMap fun e => e.obj.toList)

/-- The object ids that pages in use name, each once, ascending (R90). -/
def Engine.computeLive (e : Engine) : List ObjId :=
  let names := e.contexts.pages.flatMap fun p => (e.page p).cur.named
  (List.finRange Config.numObjects).filter fun k => k ∈ names

/-- Step 7: the live reference set is recomputed (R90). -/
def recomputeLive (s : State) : State := s.setEngine { s.engine with liveSet := s.engine.computeLive }

/-- The composition engine takes a frame start (R84). -/
def engineStart (s : State) : State :=
  (recomputeLive (runSchedule (stepContexts (applyScrolls (applyAllPending (moveClock s)))))).setSkew
    s.skew.engineTook

/-! ### Set Open (R70, R71) -/

/-- The composition engine after a valid Set Open: the two fields written, the old set cleared; FC, the pending clock
value and the raster copy are kept (R70, R71, R72). -/
def Engine.setOpen (e : Engine) (id : Half) (popup : Option PageId) : Engine :=
  { Engine.reset with fc := e.fc, pendingClock := e.pendingClock, setId := id, popupPage := popup,
                      rasterW := e.rasterW }

/-- The decoder after a valid Set Open: IDLE from any state it can be in (R52). It is never taken while DECODING. -/
def Decoder.setOpen (_ : Decoder) : Decoder := .idle

/-- The palette unit after a valid Set Open (R65). -/
def PaletteUnit.setOpen (_ : PaletteUnit) : PaletteUnit := .reset

/-- A valid Set Open acts on every block that it clears (R16, R35, R52, R65, R71, R127, R163). The "page hidden" notices
of R71 find the navigation states and the slide page cleared already, and raise no report. -/
def setOpen (id : Half) (popup : Option PageId) (s : State) : State :=
  (((((s.setEngine (s.engine.setOpen id popup)).setStore s.store.setOpen).setDecoder s.decoder.setOpen).setPalette
    s.palette.setOpen).setNav s.nav.setOpen).setSeq s.seq.setOpen

/-- The composition engine takes a Set Open (R16, R70). -/
def takeSetOpen (body : List Byte) (s : State) : State :=
  match readSetOpen body with
  | none => malformed .setOpen body s
  | some (id, popup) => setOpen id popup s

end Sys2Proof.Machine
end

