-- ==== Sys2Proof/Machine/LineMixer.lean ====
section
/-! DEFINITION. The line mixer (chapter 6): Output segments, raster measurement, the drawn object, spans, admission,
blending, and overload. -/

namespace Sys2Proof.Machine

open Sys2Proof

/-! ### Output (R99, R100) -/

/-- The line mixer takes an Output segment (R99). -/
def takeOutput (body : List Byte) (s : State) : State :=
  match readOutput body with
  | none => malformed .output body s
  | some o => s.setMixer { s.mixer with pendingOut := some o }

/-- The mixer takes a frame start: a frame opens and a pending output is applied (R97, R100). -/
def Mixer.frameStart (m : Mixer) : Mixer :=
  { m with out := m.pendingOut.getD m.out, pendingOut := none, frame := some { lines := 0, width := none },
           dropLines := 0, dropSpans := 0 }

/-! ### The drawn object (R102, R124, R125) -/

/-- The navigation unit's answer for a placement (R102). -/
inductive Drawn where
  | hidden
  | object (k : ObjId)
  | nothing
  deriving DecidableEq, Repr

/-- The object of an animation's entry; none if the entry names no object (R124). -/
def entryObject (a : Animation) (i : Nat) : Drawn :=
  match a.entries[i]?.bind AnimEntry.obj with
  | some k => .object k
  | none => .nothing

/-- The answer of a button in a state, its playhead at entry `at_` (R124). `own` is the placement's own object. -/
def drawnIn (d : PageDef) (b : Button) (x : ButtonState) (at_ : Nat) (own : ObjId) : Drawn :=
  if x = .hidden then .hidden
  else
    match b.visual x with
    | .keep => .object own
    | .object k => .object k
    | .animation ix =>
      match d.animations[ix]? with
      | some a => entryObject a at_
      | none => .object own

/-- The navigation state of a page drawn in a context: the context's, if the page is its navigation page (R124, R125). -/
def navStateFor (s : State) (c : Ctx) (p : PageId) : Option NavState :=
  match c with
  | .slide => none
  | .menu => if s.nav.menu.page = some p then some s.nav.menu else none
  | .popup => if s.nav.popup.page = some p then some s.nav.popup else none

/-- A button's state and playhead place as drawn: from the navigation state, or the resting look with entry 0 (R125). -/
def lookOf (s : State) (c : Ctx) (p : PageId) (i : Nat) (b : Button) : ButtonState × Nat :=
  match (navStateFor s c p).bind fun n => n.buttons[i]? with
  | some x => (x.state, (x.head.map Playhead.entry).getD 0)
  | none => (b.restState s.nav.resting, 0)

/-- The button that drives placement j, with its id (R119). -/
def driver (d : PageDef) (j : Nat) : Option (Nat × Button) :=
  (mapAt (fun i b => (i, b)) 0 d.buttons).find? fun x => x.2.placement = j

/-- The drawn object of placement j of page p in context c (R102). -/
def drawnObject (s : State) (c : Ctx) (p : PageId) (j : Nat) (own : ObjId) : Drawn :=
  let d := (s.engine.page p).cur
  match driver d j with
  | some (i, b) => drawnIn d b (lookOf s c p i b).1 (lookOf s c p i b).2 own
  | none => .object own

/-! ### Windows and spans (R103 to R105) -/

/-- The reduction factor k (R73). -/
def Reduction.factor : Reduction → Nat
  | .one => 1
  | .two => 2
  | .four => 4

/-- ceil(a / k). -/
def ceilDiv (a k : Nat) : Nat := (a + k - 1) / k

/-- A clamped window (R103). -/
structure Clamped where
  wx : Nat
  wy : Nat
  ww : Nat
  wh : Nat
  deriving DecidableEq, Repr

/-- One side of a window clamped: origin lowered to size − 1, extent lowered to what remains and raised to 1 (R103). -/
def clampSide (size origin extent : Nat) : Nat × Nat :=
  let o := min origin (size - 1)
  (o, max 1 (min extent (size - o)))

/-- A placement's window clamped against the version drawn (R103). -/
def clampWindow (w : Option Window) (v : Version) : Clamped :=
  match w with
  | none => { wx := 0, wy := 0, ww := v.width, wh := v.height }
  | some w =>
    let h := clampSide v.width w.wx.toNat w.ww.toNat
    let t := clampSide v.height w.wy.toNat w.wh.toNat
    { wx := h.1, wy := t.1, ww := h.2, wh := t.2 }

/-- The columns of the raster that a page may use: all, or one side of a wipe's boundary (R105). -/
structure Columns where
  lo : Nat
  hi : Nat
  deriving DecidableEq, Repr

/-- A span on one line: its columns lo to hi − 1 and what it draws there (R105, R108). `row` is the object row. -/
structure Span where
  lo : Nat
  hi : Nat
  x0 : Int
  wx : Nat
  row : Nat
  k : Nat
  version : Version
  palette : PaletteId
  opacity : Byte
  fade : Nat
  deriving DecidableEq, Repr

/-- The number of columns of a span (R105). -/
def Span.width (sp : Span) : Nat := sp.hi - sp.lo

/-- The span of a placement on line y, drawn from version v: none if the line misses its rectangle or no column is left
(R103 to R105). -/
def spanOf (pl : Placement) (v : Version) (y : Nat) (cols : Columns) (fade : Nat) : Option Span :=
  let w := clampWindow pl.window v
  let k := pl.reduction.factor
  let dy := (y : Int) - pl.y
  let lo := max cols.lo pl.x.toNat
  let hi := min cols.hi (pl.x + (ceilDiv w.ww k : Nat)).toNat
  if 0 ≤ dy ∧ dy < (ceilDiv w.wh k : Nat) ∧ lo < hi then
    some { lo := lo, hi := hi, x0 := pl.x, wx := w.wx, row := w.wy + k * dy.toNat, k := k, version := v,
           palette := pl.palette, opacity := pl.opacity, fade := fade }
  else none

/-- The candidate span of placement j of a page on line y, if it is a candidate (R105). -/
def candidateOf (s : State) (c : Ctx) (p : PageId) (y : Nat) (cols : Columns) (fade : Nat) (j : Nat)
    (pl : Placement) : Option Span :=
  if pl.visible then
    match drawnObject s c p j pl.obj with
    | .hidden | .nothing => none
    | .object k =>
      match (s.store.slot k).current with
      | some v => spanOf pl v y cols fade
      | none => none
  else none

/-- The candidates of a page on line y, from the last placement of its list to the first (R106). -/
def pageCandidates (s : State) (c : Ctx) (p : PageId) (y : Nat) (cols : Columns) (fade : Nat) : List Span :=
  ((mapAt (fun j pl => candidateOf s c p y cols fade j pl) 0 (s.engine.page p).cur.placements).reverse).filterMap id

/-- One side of a transition: its page, its columns and its fade. -/
structure Side where
  page : PageId
  cols : Columns
  fade : Nat
  deriving DecidableEq, Repr

/-- The pages of a context in the order of R106, with the fade (R91, R109) and the columns (R92, R105) of each. `w` is the
raster width in use and `copy` the engine's copy of it. -/
def sidesOf (x : CtxState) (w copy : Nat) : List Side :=
  match x with
  | .empty => []
  | .showing p => [{ page := p, cols := { lo := 0, hi := w }, fade := 255 }]
  | .transition i o .crossfade n j =>
    let g := crossfadeStep n j
    (i.toList.map fun p => { page := p, cols := { lo := 0, hi := w }, fade := g }) ++
      (o.toList.map fun p => { page := p, cols := { lo := 0, hi := w }, fade := 255 - g })
  | .transition i o .wipe n j =>
    let b := wipeBoundary copy n j
    (i.toList.map fun p => { page := p, cols := { lo := 0, hi := min w b }, fade := 255 }) ++
      (o.toList.map fun p => { page := p, cols := { lo := b, hi := w }, fade := 255 })

/-- The candidates of a context on line y (R106). -/
def contextCandidates (s : State) (c : Ctx) (y : Nat) : List Span :=
  (sidesOf (s.engine.contexts.get c) s.mixer.width s.engine.rasterW).flatMap fun d =>
    pageCandidates s c d.page y d.cols d.fade

/-- The candidates of line y in the order of R106: POPUP, MENU, SLIDE. -/
def lineCandidates (s : State) (y : Nat) : List Span :=
  contextCandidates s .popup y ++ contextCandidates s .menu y ++ contextCandidates s .slide y

/-! ### Admission (R107) -/

/-- Where admission stands on a line: the spans admitted, newest first, their total width, and the spans dropped. -/
structure Admission where
  spans : List Span
  total : Nat
  dropped : Nat
  deriving DecidableEq, Repr

/-- One candidate is admitted or dropped against 16 spans and twice the raster width (R107). -/
def admitOne (w : Nat) (a : Admission) (sp : Span) : Admission :=
  if a.spans.length < Config.maxSpans ∧ a.total + sp.width ≤ 2 * w then
    { a with spans := sp :: a.spans, total := a.total + sp.width }
  else { a with dropped := a.dropped + 1 }

/-- The admission of a line's candidates in order (R107). The list of admitted spans, newest first, is the drawing order
of R108: it reverses R106. -/
def admitSpans (w : Nat) (l : List Span) : Admission := l.foldl (admitOne w) { spans := [], total := 0, dropped := 0 }

/-! ### Pixels (R104, R108 to R110) -/

/-- The palette index of object pixel (u, v) of a version (R104). -/
def objectIndex (m : Memory) (v : Version) (u row : Nat) : Byte :=
  indexIn v.depth u (chainRead m v.chain (pixelOffset v.width v.depth u row))

/-- The entry of a live palette at an index (R55, R104). -/
def PaletteUnit.entry (u : PaletteUnit) (p : PaletteId) (ix : Byte) : Entry := (u.live[p])[ix.toFin]

/-- Screen column x of a span blended over the value beneath (R104, R108 to R110). -/
def drawPixel (m : Memory) (pal : PaletteUnit) (sp : Span) (x : Nat) (c : Pixel) : Pixel :=
  let u := sp.wx + sp.k * ((x : Int) - sp.x0).toNat
  let e := pal.entry sp.palette (objectIndex m sp.version u sp.row)
  blendPixel (effectiveAlpha e.a.toNat sp.opacity.toNat sp.fade) e c

/-- A span drawn at column x if it covers it. -/
def drawSpan (m : Memory) (pal : PaletteUnit) (x : Nat) (c : Pixel) (sp : Span) : Pixel :=
  if sp.lo ≤ x ∧ x < sp.hi then drawPixel m pal sp x c else c

/-- The value a pixel starts from (R101). -/
def startPixel (o : OutputSetting) (input : Pixel) : Pixel :=
  match o.mode with
  | .fill => o.fill
  | .pass | .composed => input

/-- One pixel of a composed line: the admitted spans drawn bottom to top; beyond W it passes (R98, R101, R108). -/
def composePixel (s : State) (spans : List Span) (x : Nat) (input : Pixel) : Pixel :=
  if x < s.mixer.width then spans.foldl (drawSpan s.mem s.palette x) (startPixel s.mixer.out input) else input

/-- A line is composed: the raster is VALID, the mode is COMPOSED or FILL, and y lies in the raster (R98, R101). -/
def Mixer.composes (m : Mixer) (y : Nat) : Bool := m.raster == .valid && m.out.mode != .pass && decide (y < m.height)

/-- The mixer after counting a line of an open frame and its drops (R97, R111). -/
def Mixer.countLine (m : Mixer) (f : OpenFrame) (pixels dropped : Nat) : Mixer :=
  { m with frame := some { lines := stop16 (f.lines + 1), width := some (f.width.getD (stop16 pixels)) },
           dropLines := if dropped = 0 then m.dropLines else stop16 (m.dropLines + 1),
           dropSpans := stop16 (m.dropSpans + dropped) }

/-- The mixer takes one active line (R96, R98, R101). -/
def mixLine (pixels : List Pixel) (s : State) : State :=
  match s.mixer.frame with
  | none => s.setMixer { s.mixer with videoOut := pixels }
  | some f =>
    if s.mixer.composes f.lines then
      let a := admitSpans s.mixer.width (lineCandidates s f.lines)
      s.setMixer { s.mixer.countLine f pixels.length a.dropped with
        videoOut := mapAt (composePixel s a.spans) 0 pixels }
    else s.setMixer { s.mixer.countLine f pixels.length 0 with videoOut := pixels }

/-! ### The frame end (R97, R112) -/

/-- The mixer after a frame end that closes a frame: the measured raster is in use, and the overload memory is set if the
frame dropped a span (R97, R112). The drop counters stand until the next frame opens. -/
def Mixer.closeFrame (m : Mixer) (f : OpenFrame) : Mixer :=
  let w := f.width.getD 0
  { m with raster := rasterOf w f.lines, width := w, height := f.lines, frame := none,
           overload := decide (0 < m.dropSpans) }

/-- OVERLOAD at the first frame of a run of frames with drops (R112). -/
def reportOverload (s : State) : State :=
  if 0 < s.mixer.dropSpans ∧ s.mixer.overload = false then s.raise (.overload s.mixer.dropLines s.mixer.dropSpans)
  else s

/-- RASTER-OK or RASTER-BAD where the raster state changes (R97). -/
def reportRaster (old : RasterState) (s : State) : State :=
  if s.mixer.raster = old then s
  else match s.mixer.raster with
    | .valid => s.raise (.rasterOk s.mixer.width s.mixer.height)
    | .invalid => s.raise (.rasterBad s.mixer.width s.mixer.height)
    | .unknown => s

/-- The mixer takes a frame end; with no frame open it does nothing (R97, R112). -/
def mixerEnd (s : State) : State :=
  match s.mixer.frame with
  | none => s
  | some f =>
    let s1 := reportOverload s
    reportRaster s.mixer.raster (s1.setMixer (s1.mixer.closeFrame f))

end Sys2Proof.Machine
end

