-- ==== Sys2Proof/Machine/Restart.lean ====
section
/-! DEFINITION. The report unit's own segments (Status Request, Attention Mask, Restart) and the RESET_N pin (chapter 9). -/

namespace Sys2Proof.Machine

open Sys2Proof

/-! ### Status (R172) -/

/-- The code of the patch state (11.10). -/
def Patch.code : Patch → Nat
  | .closed => 0
  | .collecting _ _ => 1
  | .scheduled _ _ _ => 2

/-- STATUS part 1 of the present state (R172). -/
def statusOneOf (s : State) : StatusOne :=
  { free := s.store.free.length, slots := tableCount Slot.drawn s.store.slots, setId := s.engine.setId,
    slide := s.engine.contexts.slide.presented, menu := s.engine.contexts.menu.presented,
    popup := s.engine.contexts.popup.presented, patch := s.palette.patch.code }

/-- STATUS part 2 of the present state (R172). -/
def statusTwoOf (s : State) : StatusTwo :=
  { run := s.seq.run, shown := s.seq.shown, flags := s.nav.flags, segments := s.port.segTotal,
    bytes := s.port.byteTotal, width := s.mixer.width, height := s.mixer.height }

/-- The report unit takes a Status Request: both parts, each entering the queue on its own (R172). -/
def takeStatus (body : List Byte) (s : State) : State :=
  if body = [] then (s.raise (.statusOne (statusOneOf s))).raise (.statusTwo (statusTwoOf s))
  else malformed .statusRequest body s

/-- The report unit takes an Attention Mask; ATTN is tested at once (R171). -/
def takeMask (body : List Byte) (s : State) : State :=
  match readMask body with
  | none => malformed .attentionMask body s
  | some m => s.setReport (ReportUnit.testAttn { s.report with mask := m })

/-! ### Reset states (R173, R174) -/

/-- Every block but the port and the report unit in its reset state. The contents of object memory are kept (R19), and so
is the line last delivered on the video output. No frame start is left half taken: the next one gives FC 1 (R173; log
entry 5). -/
def resetBlocks (s : State) : State :=
  { s with decoder := .idle, store := .reset, palette := .reset, engine := .reset,
           mixer := Mixer.reset s.mixer.videoOut, nav := .reset, seq := .reset, skew := .level }

/-- The part after a valid Restart (R17, R173): the queue emptied, HUNT, HOLD released, every block reset, and
RESTART-DONE (COMMAND) alone in the report queue. -/
def restartPart (s : State) : State :=
  ((resetBlocks s).setPort (Port.reset false)).setReport (ReportUnit.reset .command s.report.port)

/-- The report unit takes a Restart (R173). -/
def takeRestart (body : List Byte) (s : State) : State :=
  if body = [] then restartPart s else malformed .restart body s

/-- The part once RESET_N is low (R18, R174): every block reset, HOLD asserted, the report queue empty. -/
def assertReset (s : State) : State :=
  { ((resetBlocks s).setPort (Port.reset true)).setReport (ReportUnit.low s.report.port) with
    resetLow := true }

/-- The part once RESET_N is high again (R175): HOLD released, RESTART-DONE (PIN) queued. A pin that is high already stays
as it is. -/
def releaseReset (s : State) : State :=
  if s.resetLow then
    { ((resetBlocks s).setPort (Port.reset false)).setReport (ReportUnit.reset .pin s.report.port) with
      resetLow := false }
  else s

/-- What a command does when RESET_N is high; a held part takes no byte and no event (R18, R174). -/
def unlessHeld (f : State → State) (s : State) : State := if s.resetLow then s else f s

end Sys2Proof.Machine
end

