-- ==== Sys2Proof/Machine/Router.lean ====
section
/-! DEFINITION. The router (1.4): complete segments handed to their owners, express ones at once, content ones in arrival
order and while the decoder is free; and the arrival of a whole segment, which a segment command stands for. -/

namespace Sys2Proof.Machine

open Sys2Proof

/-- The owner of a segment takes it (R12, R15). -/
def takeSegment (g : Segment) (s : State) : State :=
  match g.kind with
  | .setOpen => takeSetOpen g.body s
  | .objectData => takeFragment g.body s
  | .objectDrop => takeDrop g.body s
  | .palette => takePalette g.body s
  | .page => takePage g.body s
  | .buttons => takeButtons g.body s
  | .animations => takeAnimations g.body s
  | .scroll => takeScroll g.body s
  | .showPage => takeShow g.body s
  | .slideList => takeSlideList g.body s
  | .key => takeKey g.body s
  | .flags => takeFlags g.body s
  | .clock => takeClock g.body s
  | .output => takeOutput g.body s
  | .slideControl => takeSlideControl g.body s
  | .statusRequest => takeStatus g.body s
  | .attentionMask => takeMask g.body s
  | .restart => takeRestart g.body s

/-- The head of the queue leaves it, and HOLD is tested (R9, R11). -/
def leaveHead (s : State) : State := s.setPort (Port.testHold { s.port with queue := s.port.queue.tail })

/-- Content segments are taken in arrival order while the decoder is free, at most `n` of them (R14). A fragment that the
decoder goes on to decode stays at the head of the queue; one it discards leaves at once. -/
def drainContent : Nat → State → State
  | 0, s => s
  | n + 1, s =>
    if s.decoder.busy then s
    else
      match s.port.queue with
      | [] => s
      | g :: _ =>
        if g.kind = .objectData then
          let s1 := takeFragment g.body s
          if s1.decoder.busy then s1 else drainContent n (leaveHead s1)
        else drainContent n (takeSegment g (leaveHead s))

/-- A complete content segment joins the queue, and HOLD is tested (R9, R11). -/
def joinQueue (g : Segment) (s : State) : State :=
  s.setPort (Port.testHold { s.port with queue := s.port.queue ++ [g] })

/-- A segment that has just become complete, its reception over: an express one is taken at once (R13), a content one joins
the content order (R14). -/
def routeSegment (g : Segment) (s : State) : State :=
  if g.kind.express then takeSegment g (s.setPort s.port.testHold)
  else drainContent (s.port.queue.length + 1) (joinQueue g s)

/-- A receiver in HUNT left with FF count n by the bytes that have gone by; any other is left alone (log entry 3). -/
def Port.hunted (p : Port) (n : Fin 3) : Port :=
  match p.rx with
  | .hunt => { p with ffCount := n }
  | .header _ | .body _ _ | .skip _ _ => p

/-- The FF count at which a receiver in HUNT stands once all stuffed bytes of a segment have gone by ignored: 1 where the
last of them is an FF byte that no stuffing follows (1.1, R2). Kind and source bytes are never FF. -/
def Segment.trailingCount (g : Segment) : Fin 3 :=
  (bytes16 g.body.length ++ g.body).foldl (fun n b => if b = 0xFF then (if n = 1 then 0 else 1) else 0) 0

/-- The port as a segment of n body bytes has come to fill its place: its marker has set a hunting receiver's FF count to
0 (R2, R8), and HOLD has been tested (R11). -/
def Port.rise (p : Port) (n : Nat) : Port :=
  { p.hunted 0 with hold := holdLevel (p.segTotal + 1) (p.byteTotal + n) p.hold }

/-- HOLD tested as a segment of n body bytes fills its place and again as it leaves it (R11). -/
def Port.visit (p : Port) (n : Nat) : Port := (p.rise n).testHold

/-- Why a whole segment is refused on arrival, with the port it leaves: no place (R10), too long (R6), or no room for its
bytes (R10). The rest of a refused segment goes by in HUNT and leaves its FF count there. -/
def arrivalRefusal (g : Segment) (p : Port) : Option (Port × ReportBody) :=
  if Config.maxSegments ≤ p.segTotal then some (p.hunted g.trailingCount, .overrun 0xFF 0 .segments)
  else if Config.maxBody < g.body.length then some ((p.visit 0).hunted g.trailingCount, .oversize g.kind.code g.body.length)
  else if Config.maxQueueBytes < p.byteTotal + g.body.length then
    some ((p.visit (Config.maxQueueBytes - p.byteTotal)).hunted g.trailingCount,
      .overrun g.kind.code (4 + (Config.maxQueueBytes - p.byteTotal)) .bytes)
  else none

/-- A whole segment with an accepted header arrives (log entry 3): what its bytes would do, strobed one after another into
a receiver in HUNT with whatever FF count, in one step. A segment in reception or being skipped is left alone, FF count
and all, and one in reception counts toward the totals: DESIGN CHOICE, since on the wire it would be truncated (R4). -/
def present (g : Segment) (s : State) : State :=
  match arrivalRefusal g s.port with
  | some (p, r) => (s.setPort p).raise r
  | none => routeSegment g (s.setPort (s.port.rise g.body.length))

/-- FRAGMENT_COMPLETE: the decoder completes the fragment in hand, which leaves the queue, and the next content segments
are taken (R14, R43). With no fragment in hand nothing happens. -/
def fragmentDone (s : State) : State :=
  match s.decoder with
  | .decoding l pos code =>
    drainContent s.port.queue.length (leaveHead (completeFragment l pos code s))
  | .idle | .await _ | .skipping _ => s

end Sys2Proof.Machine
end

