-- ==== Sys2Proof/Machine/SegmentPort.lean ====
section
/-! DEFINITION. The receiver (1.1 to 1.3): what each byte strobed into the segment port does. -/

namespace Sys2Proof.Machine

open Sys2Proof

/-- One more consecutive FF; the count stays at 2 (R2, R3). -/
def raiseCount (n : Fin 3) : Fin 3 := if n = 0 then 1 else 2

/-- The FF count after a segment byte (R3). -/
def countAfter (n : Fin 3) (b : Byte) : Fin 3 := if b = 0xFF then raiseCount n else 0

/-- De-stuffed bytes of the segment in reception, header bytes included (R4, R5, R10). -/
def Receiver.received : Receiver → Nat
  | .hunt => 0
  | .header got => got.length
  | .body _ got => 4 + got.length
  | .skip _ n => 4 + n

/-- The kind byte of the segment in reception; 0xFF before it has arrived (11.10). -/
def Receiver.kindByte : Receiver → Byte
  | .hunt => 0xFF
  | .header got => got.headD 0xFF
  | .body h _ | .skip h _ => h.kind

/-- The state with the receiver's state and FF count replaced; the queue totals stand. -/
def State.setRx (s : State) (rx : Receiver) (n : Fin 3) : State := s.setPort { s.port with rx := rx, ffCount := n }

/-- The same where the queue totals change, so that HOLD is tested (R11). -/
def State.changeRx (s : State) (rx : Receiver) (n : Fin 3) : State :=
  s.setPort (Port.testHold { s.port with rx := rx, ffCount := n })

/-- The receiver returns to HUNT with FF count 0 and gives up the segment in reception, if it holds a place (R4, R5,
R10). -/
def discardSegment (s : State) : State :=
  match s.port.rx with
  | .header _ | .body _ _ => s.changeRx .hunt 0
  | .hunt | .skip _ _ => s.setRx .hunt 0

/-- A marker has been found: a new segment opens, or the segment limit refuses it with OVERRUN (R2, R10). -/
def openReception (s : State) : State :=
  if Config.maxSegments ≤ s.port.segTotal then (s.setRx .hunt 0).raise (.overrun 0xFF 0 .segments)
  else s.changeRx (.header []) 0

/-- One byte in HUNT (R2). -/
def huntByte (b : Byte) (s : State) : State :=
  if b = 0xFF then s.setRx .hunt (raiseCount s.port.ffCount)
  else if b = 0x5A ∧ s.port.ffCount = 2 then openReception s
  else s.setRx .hunt 0

/-- A marker inside a segment (R4): the segment in reception is discarded with TRUNCATED, a skip just ends, and a new
segment opens. -/
def markerInside (s : State) : State :=
  let s1 := discardSegment s
  match s.port.rx with
  | .header _ | .body _ _ => openReception (s1.raise (.truncated s.port.rx.kindByte s.port.rx.received))
  | .hunt | .skip _ _ => openReception s1

/-- A framing violation (R5): FRAMING, the segment discarded, and the byte examined as the first of the hunt. -/
def framingViolation (b : Byte) (s : State) : State :=
  huntByte b ((discardSegment s).raise (.framing s.port.rx.kindByte s.port.rx.received))

/-- The byte after FF FF in HEADER, BODY or SKIP (R3). -/
def afterDoubleFF (b : Byte) (s : State) : State :=
  if b = 0x00 then s.setRx s.port.rx 0
  else if b = 0x5A then markerInside s
  else framingViolation b s

/-- A segment completes: the receiver enters HUNT and the router takes over (R8, R13, R14). -/
def completeSegment (k : Kind) (body : List Byte) (s : State) : State :=
  routeSegment ⟨k, body⟩ (s.setPort { s.port with rx := .hunt, ffCount := 0 })

/-- A refused segment is skipped; a skip of length 0 ends at once (R6, R7). -/
def enterSkip (h : Header) (n : Fin 3) (s : State) : State :=
  if h.length = 0 then s.changeRx .hunt 0 else s.changeRx (.skip h 0) n

/-- The header is complete: its four checks in order (R6). `n` is the FF count after the fourth byte. -/
def checkHeader (h : Header) (n : Fin 3) (s : State) : State :=
  if Config.maxBody < h.length then (discardSegment s).raise (.oversize h.kind h.length)
  else
    match kindOf h.kind with
    | none => enterSkip h n (s.raise (.unknownKind h.kind h.length))
    | some k =>
      if h.source ≠ 0x00 ∧ h.source ≠ 0x01 then enterSkip h n (s.raise (.malformed h.kind h.length))
      else if k.express ∧ h.source = 0x00 then enterSkip h n (s.raise (.source h.kind h.length))
      else if h.length = 0 then completeSegment k [] s
      else s.setRx (.body h []) n

/-- A segment byte in HEADER (R3, R6). -/
def headerByte (got : List Byte) (b : Byte) (s : State) : State :=
  let g := got ++ [b]
  let n := countAfter s.port.ffCount b
  if g.length < 4 then s.setRx (.header g) n
  else checkHeader { kind := at8 g 0, source := at8 g 1, length := (at16 g 2).toNat } n s

/-- A segment byte in BODY (R8, R10). -/
def bodyByte (h : Header) (got : List Byte) (b : Byte) (s : State) : State :=
  if Config.maxQueueBytes ≤ s.port.byteTotal then
    huntByte b ((discardSegment s).raise (.overrun h.kind (4 + got.length) .bytes))
  else
    let g := got ++ [b]
    let s1 := s.changeRx (.body h g) (countAfter s.port.ffCount b)
    if g.length < h.length then s1
    else
      match kindOf h.kind with
      | some k => completeSegment k g s1
      | none => discardSegment s1

/-- A segment byte in SKIP (R7). -/
def skipByte (h : Header) (counted : Nat) (b : Byte) (s : State) : State :=
  if counted + 1 < h.length then s.setRx (.skip h (counted + 1)) (countAfter s.port.ffCount b) else s.setRx .hunt 0

/-- One byte strobed into the segment port (R1, R3). -/
def receiveByte (b : Byte) (s : State) : State :=
  match s.port.rx with
  | .hunt => huntByte b s
  | .header got => if s.port.ffCount = 2 then afterDoubleFF b s else headerByte got b s
  | .body h got => if s.port.ffCount = 2 then afterDoubleFF b s else bodyByte h got b s
  | .skip h n => if s.port.ffCount = 2 then afterDoubleFF b s else skipByte h n b s

end Sys2Proof.Machine
end

