-- ==== Sys2Proof/Machine/SegmentCommands.lean ====
section
/-! DEFINITION. The meanings of the segment commands: each presents the segment its operands spell, and a part held in
reset takes none (R18). -/

namespace Sys2Proof.Machine

open Sys2Proof

/-- SET_OPEN (R16, R70, R71). -/
def execSetOpen (body : List Byte) (s : State) : Host.Outcome State Fault Refusal :=
  .next (unlessHeld (present ⟨.setOpen, body⟩) s)

/-- OBJECT_DATA_FIRST (R39, R41). -/
def execObjectDataFirst (id : Half) (rest : List Byte) (s : State) : Host.Outcome State Fault Refusal :=
  .next (unlessHeld (present ⟨.objectData, fragmentBody .first id rest⟩) s)

/-- OBJECT_DATA_ONLY (R39, R41). -/
def execObjectDataOnly (id : Half) (rest : List Byte) (s : State) : Host.Outcome State Fault Refusal :=
  .next (unlessHeld (present ⟨.objectData, fragmentBody .only id rest⟩) s)

/-- OBJECT_DATA_MIDDLE (R39, R42). -/
def execObjectDataMiddle (id : Half) (code : List Byte) (s : State) : Host.Outcome State Fault Refusal :=
  .next (unlessHeld (present ⟨.objectData, fragmentBody .middle id code⟩) s)

/-- OBJECT_DATA_LAST (R39, R42). -/
def execObjectDataLast (id : Half) (code : List Byte) (s : State) : Host.Outcome State Fault Refusal :=
  .next (unlessHeld (present ⟨.objectData, fragmentBody .last id code⟩) s)

/-- OBJECT_DROP (R32, R52). -/
def execObjectDrop (body : List Byte) (s : State) : Host.Outcome State Fault Refusal :=
  .next (unlessHeld (present ⟨.objectDrop, body⟩) s)

/-- PALETTE_HOLD (R57 to R62). -/
def execPaletteHold (palette : BitVec 4) (count : BitVec 9) (time : FrameCount) (entries : List Byte) (s : State) : Host.Outcome State Fault Refusal :=
  .next (unlessHeld (present ⟨.palette, paletteBody .hold palette count time entries⟩) s)

/-- PALETTE_NEXT (R57 to R62). -/
def execPaletteNext (palette : BitVec 4) (count : BitVec 9) (time : FrameCount) (entries : List Byte) (s : State) : Host.Outcome State Fault Refusal :=
  .next (unlessHeld (present ⟨.palette, paletteBody .next palette count time entries⟩) s)

/-- PALETTE_AT (R57 to R62). -/
def execPaletteAt (palette : BitVec 4) (count : BitVec 9) (time : FrameCount) (entries : List Byte) (s : State) : Host.Outcome State Fault Refusal :=
  .next (unlessHeld (present ⟨.palette, paletteBody .atTime palette count time entries⟩) s)

/-- PALETTE_DISCARD (R57 to R62). -/
def execPaletteDiscard (palette : BitVec 4) (count : BitVec 9) (time : FrameCount) (entries : List Byte) (s : State) : Host.Outcome State Fault Refusal :=
  .next (unlessHeld (present ⟨.palette, paletteBody .discard palette count time entries⟩) s)

/-- PAGE (R74 to R76). -/
def execPageSegment (body : List Byte) (s : State) : Host.Outcome State Fault Refusal :=
  .next (unlessHeld (present ⟨.page, body⟩) s)

/-- BUTTONS (R75, R76, R121). -/
def execButtons (body : List Byte) (s : State) : Host.Outcome State Fault Refusal :=
  .next (unlessHeld (present ⟨.buttons, body⟩) s)

/-- ANIMATIONS (R75, R76, R122). -/
def execAnimations (body : List Byte) (s : State) : Host.Outcome State Fault Refusal :=
  .next (unlessHeld (present ⟨.animations, body⟩) s)

/-- SCROLL (R78). -/
def execScroll (body : List Byte) (s : State) : Host.Outcome State Fault Refusal :=
  .next (unlessHeld (present ⟨.scroll, body⟩) s)

/-- SHOW (R82, R83). -/
def execShowSegment (body : List Byte) (s : State) : Host.Outcome State Fault Refusal :=
  .next (unlessHeld (present ⟨.showPage, body⟩) s)

/-- SLIDE_LIST (R147). -/
def execSlideList (body : List Byte) (s : State) : Host.Outcome State Fault Refusal :=
  .next (unlessHeld (present ⟨.slideList, body⟩) s)

/-- KEY (R131). -/
def execKey (body : List Byte) (s : State) : Host.Outcome State Fault Refusal :=
  .next (unlessHeld (present ⟨.key, body⟩) s)

/-- FLAGS (R117, R118). -/
def execFlags (body : List Byte) (s : State) : Host.Outcome State Fault Refusal :=
  .next (unlessHeld (present ⟨.flags, body⟩) s)

/-- CLOCK (R68). -/
def execClock (body : List Byte) (s : State) : Host.Outcome State Fault Refusal :=
  .next (unlessHeld (present ⟨.clock, body⟩) s)

/-- OUTPUT (R99). -/
def execOutput (body : List Byte) (s : State) : Host.Outcome State Fault Refusal :=
  .next (unlessHeld (present ⟨.output, body⟩) s)

/-- CONFIGURE (R149). -/
def execConfigure (rest : List Byte) (s : State) : Host.Outcome State Fault Refusal :=
  .next (unlessHeld (present ⟨.slideControl, SlideOp.configure.code :: rest⟩) s)

/-- ARM (R149). -/
def execArm (rest : List Byte) (s : State) : Host.Outcome State Fault Refusal :=
  .next (unlessHeld (present ⟨.slideControl, SlideOp.arm.code :: rest⟩) s)

/-- DISARM (R149, R162). -/
def execDisarm (rest : List Byte) (s : State) : Host.Outcome State Fault Refusal :=
  .next (unlessHeld (present ⟨.slideControl, SlideOp.disarm.code :: rest⟩) s)

/-- START (R149, R151). -/
def execSlideStart (rest : List Byte) (s : State) : Host.Outcome State Fault Refusal :=
  .next (unlessHeld (present ⟨.slideControl, SlideOp.start.code :: rest⟩) s)

/-- STOP (R149, R152). -/
def execSlideStop (rest : List Byte) (s : State) : Host.Outcome State Fault Refusal :=
  .next (unlessHeld (present ⟨.slideControl, SlideOp.stop.code :: rest⟩) s)

/-- PAUSE (R149, R160). -/
def execSlidePause (rest : List Byte) (s : State) : Host.Outcome State Fault Refusal :=
  .next (unlessHeld (present ⟨.slideControl, SlideOp.pause.code :: rest⟩) s)

/-- RESUME (R149, R160). -/
def execSlideResume (rest : List Byte) (s : State) : Host.Outcome State Fault Refusal :=
  .next (unlessHeld (present ⟨.slideControl, SlideOp.resume.code :: rest⟩) s)

/-- NEXT (R149, R160). -/
def execSlideNext (rest : List Byte) (s : State) : Host.Outcome State Fault Refusal :=
  .next (unlessHeld (present ⟨.slideControl, SlideOp.next.code :: rest⟩) s)

/-- PREV (R149, R160). -/
def execSlidePrev (rest : List Byte) (s : State) : Host.Outcome State Fault Refusal :=
  .next (unlessHeld (present ⟨.slideControl, SlideOp.prev.code :: rest⟩) s)

/-- STATUS_REQUEST (R172). -/
def execStatusRequest (body : List Byte) (s : State) : Host.Outcome State Fault Refusal :=
  .next (unlessHeld (present ⟨.statusRequest, body⟩) s)

/-- ATTENTION_MASK (R171). -/
def execAttentionMask (body : List Byte) (s : State) : Host.Outcome State Fault Refusal :=
  .next (unlessHeld (present ⟨.attentionMask, body⟩) s)

/-- RESTART (R17, R173). -/
def execRestart (body : List Byte) (s : State) : Host.Outcome State Fault Refusal :=
  .next (unlessHeld (present ⟨.restart, body⟩) s)

end Sys2Proof.Machine
end

