-- ==== Sys2Proof/Machine/EventCommands.lean ====
section
/-! DEFINITION. The meanings of the port, pin and video event commands. A row that is a part of another row's step
(TRANSITION_END, ACTIVATION_EXPIRY, PLAYHEAD_STEP, DWELL_EXPIRY, SLIDE_READY, LATE_SLIDE, TIME_TRIGGER) performs that part
alone where its condition holds, and nothing where it does not (log entry 6). -/

namespace Sys2Proof.Machine

open Sys2Proof

/-- The skew settled at a frame end: both blocks have taken the frame start by then (log entry 5). -/
def settleSkew (s : State) : State := s.setSkew .level

/-! ### The segment port and the decoder -/

/-- SEGMENT_BYTE (R1 to R15, R18). -/
def execSegmentByte (b : Byte) (s : State) : Host.Outcome State Fault Refusal := .next (unlessHeld (receiveByte b) s)

/-- FRAGMENT_COMPLETE (R14, R43 to R51). -/
def execFragmentComplete (s : State) : Host.Outcome State Fault Refusal := .next (unlessHeld fragmentDone s)

/-! ### Frame starts -/

/-- ENGINE_FRAME_START (R84). -/
def execEngineFrameStart (s : State) : Host.Outcome State Fault Refusal := .next (unlessHeld engineStart s)

/-- The transition of one context ends if its step would reach N + 1 (R85). -/
def transitionDone (c : Ctx) (s : State) : State :=
  match s.engine.contexts.get c with
  | .transition _ _ _ n j => if n ≤ j then endTransition c s else s
  | .empty | .showing _ => s

/-- TRANSITION_END (R85). -/
def execTransitionEnd (c : Ctx) (s : State) : Host.Outcome State Fault Refusal := .next (unlessHeld (transitionDone c) s)

/-- STORE_FRAME_START (R31). -/
def execStoreFrameStart (s : State) : Host.Outcome State Fault Refusal :=
  .next (unlessHeld (fun s => s.setStore s.store.frameStart) s)

/-- PALETTE_FRAME_START (R63). -/
def execPaletteFrameStart (s : State) : Host.Outcome State Fault Refusal := .next (unlessHeld paletteStart s)

/-- MIXER_FRAME_START (R97, R100). -/
def execMixerFrameStart (s : State) : Host.Outcome State Fault Refusal :=
  .next (unlessHeld (fun s => s.setMixer s.mixer.frameStart) s)

/-! ### Lines and frame ends -/

/-- LINE (R96, R98, R101 to R111). While the part is held the line passes and no state of a block changes (R114, R174). -/
def execLine (pixels : List Pixel) (s : State) : Host.Outcome State Fault Refusal :=
  .next (if s.resetLow then s.setMixer { s.mixer with videoOut := pixels } else mixLine pixels s)

/-- MIXER_FRAME_END (R97, R112). -/
def execMixerFrameEnd (s : State) : Host.Outcome State Fault Refusal :=
  .next (unlessHeld (fun s => settleSkew (mixerEnd s)) s)

/-- STORE_FRAME_END (R33, R34). -/
def execStoreFrameEnd (s : State) : Host.Outcome State Fault Refusal :=
  .next (unlessHeld (fun s => settleSkew (s.setStore (s.store.frameEnd s.engine.liveSet))) s)

/-- NAV_FRAME_END (R132). -/
def execNavFrameEnd (s : State) : Host.Outcome State Fault Refusal :=
  .next (unlessHeld (fun s => settleSkew (navEnd s)) s)

/-- SEQUENCER_FRAME_END (R161). -/
def execSequencerFrameEnd (s : State) : Host.Outcome State Fault Refusal :=
  .next (unlessHeld (fun s => settleSkew (sequencerEnd s)) s)

/-! ### Parts of a frame end -/

/-- The activation of one context executes if its count would reach 0 (R134). -/
def activationDone (c : NavCtx) (s : State) : State :=
  match (s.nav.get c).activation with
  | some a => if a.left ≤ 1 then finishActivation c a.button s else s
  | none => s

/-- ACTIVATION_EXPIRY (R134). Given alone, it marks the playhead that it restarts (log entry 30). -/
def execActivationExpiry (c : NavCtx) (s : State) : Host.Outcome State Fault Refusal :=
  .next (unlessHeld (activationDone c) s)

/-- A playhead whose remaining hold is 1 moves on (R126), unless it carries the mark of a restart: within the parts of a
frame end given alone, one that an ACTIVATION_EXPIRY has restarted is left until the next navigation frame end clears the
mark. DESIGN CHOICE (log entry 30). -/
def Playhead.runOut (a : Animation) (h : Playhead) : Playhead := if h.fresh = false ∧ h.left = 1 then h.moveOn a else h

/-- The playhead of one button runs out (R126). -/
def playheadDone (c : NavCtx) (i : Nat) (s : State) : State :=
  let n := s.nav.get c
  match n.buttons[i]? with
  | some b => s.setNavState c { n with buttons := n.buttons.set i (b.mapHead (navDef s c) i Playhead.runOut) }
  | none => s

/-- PLAYHEAD_STEP (R126). -/
def execPlayheadStep (c : NavCtx) (button : Nat) (s : State) : Host.Outcome State Fault Refusal :=
  .next (unlessHeld (playheadDone c button) s)

/-- A COUNTING dwell in RUNNING or DRAINING expires if its count would reach 0 (R159). -/
def dwellDone (s : State) : State :=
  if s.seq.run = .running ∨ s.seq.run = .draining then
    match s.seq.dwell with
    | .counting n => if n ≤ 1 then expireDwell s else s
    | .absent | .entering | .still => s
  else s

/-- DWELL_EXPIRY (R159). -/
def execDwellExpiry (s : State) : Host.Outcome State Fault Refusal := .next (unlessHeld dwellDone s)

/-- A READYING target that is ready moves to stage READY (R155). -/
def readyDone (s : State) : State :=
  match s.seq.target with
  | some t => if t.ready = false ∧ targetReady t s then markReady t s else s
  | none => s

/-- SLIDE_READY (R155). -/
def execSlideReady (s : State) : Host.Outcome State Fault Refusal := .next (unlessHeld readyDone s)

/-- A READYING target that is not ready is late if its wait count would reach 300 (R155). -/
def lateDone (s : State) : State :=
  match s.seq.target with
  | some t => if t.ready = false ∧ targetReady t s = false ∧ Config.maxWait ≤ t.wait + 1 then lateTarget t s else s
  | none => s

/-- LATE_SLIDE (R155). -/
def execLateSlide (s : State) : Host.Outcome State Fault Refusal := .next (unlessHeld lateDone s)

/-- TIME_TRIGGER (R150). -/
def execTimeTrigger (s : State) : Host.Outcome State Fault Refusal := .next (unlessHeld testTime s)

/-! ### The report port and the reset pin -/

/-- READ_STROBE (R169). While the part is held it returns 0x00 and changes nothing else (R174). -/
def execReadStrobe (s : State) : Host.Outcome State Fault Refusal :=
  .next (if s.resetLow then s.setReport { s.report with port := 0 } else s.setReport s.report.read)

/-- RESET_N_ASSERTED (R18, R174). -/
def execResetNAsserted (s : State) : Host.Outcome State Fault Refusal := .next (assertReset s)

/-- RESET_N_RELEASED (R18, R175). -/
def execResetNReleased (s : State) : Host.Outcome State Fault Refusal := .next (releaseReset s)

end Sys2Proof.Machine
end

