-- ==== Sys2Proof/Machine/Dispatch.lean ====
section
/-! DEFINITION. The dispatch of a command to its meaning: one arm per constructor of `Instr`, in the table's order. -/

namespace Sys2Proof.Machine

open Sys2Proof

/-- What a command does to everything but the queue of waiting commands. -/
def exec (i : Instr) (s : State) : Host.Outcome State Fault Refusal :=
  match i with
  | .segmentByte b => Sys2Proof.Machine.execSegmentByte b s
  | .setOpen body => Sys2Proof.Machine.execSetOpen body s
  | .objectDataFirst id rest => Sys2Proof.Machine.execObjectDataFirst id rest s
  | .objectDataOnly id rest => Sys2Proof.Machine.execObjectDataOnly id rest s
  | .objectDataMiddle id code => Sys2Proof.Machine.execObjectDataMiddle id code s
  | .objectDataLast id code => Sys2Proof.Machine.execObjectDataLast id code s
  | .fragmentComplete => Sys2Proof.Machine.execFragmentComplete s
  | .objectDrop body => Sys2Proof.Machine.execObjectDrop body s
  | .paletteHold palette count time entries => Sys2Proof.Machine.execPaletteHold palette count time entries s
  | .paletteNext palette count time entries => Sys2Proof.Machine.execPaletteNext palette count time entries s
  | .paletteAt palette count time entries => Sys2Proof.Machine.execPaletteAt palette count time entries s
  | .paletteDiscard palette count time entries => Sys2Proof.Machine.execPaletteDiscard palette count time entries s
  | .pageSegment body => Sys2Proof.Machine.execPageSegment body s
  | .buttons body => Sys2Proof.Machine.execButtons body s
  | .animations body => Sys2Proof.Machine.execAnimations body s
  | .scroll body => Sys2Proof.Machine.execScroll body s
  | .showSegment body => Sys2Proof.Machine.execShowSegment body s
  | .slideList body => Sys2Proof.Machine.execSlideList body s
  | .key body => Sys2Proof.Machine.execKey body s
  | .flags body => Sys2Proof.Machine.execFlags body s
  | .clock body => Sys2Proof.Machine.execClock body s
  | .output body => Sys2Proof.Machine.execOutput body s
  | .configure rest => Sys2Proof.Machine.execConfigure rest s
  | .arm rest => Sys2Proof.Machine.execArm rest s
  | .disarm rest => Sys2Proof.Machine.execDisarm rest s
  | .slideStart rest => Sys2Proof.Machine.execSlideStart rest s
  | .slideStop rest => Sys2Proof.Machine.execSlideStop rest s
  | .slidePause rest => Sys2Proof.Machine.execSlidePause rest s
  | .slideResume rest => Sys2Proof.Machine.execSlideResume rest s
  | .slideNext rest => Sys2Proof.Machine.execSlideNext rest s
  | .slidePrev rest => Sys2Proof.Machine.execSlidePrev rest s
  | .statusRequest body => Sys2Proof.Machine.execStatusRequest body s
  | .attentionMask body => Sys2Proof.Machine.execAttentionMask body s
  | .restart body => Sys2Proof.Machine.execRestart body s
  | .engineFrameStart => Sys2Proof.Machine.execEngineFrameStart s
  | .transitionEnd c => Sys2Proof.Machine.execTransitionEnd c s
  | .storeFrameStart => Sys2Proof.Machine.execStoreFrameStart s
  | .paletteFrameStart => Sys2Proof.Machine.execPaletteFrameStart s
  | .mixerFrameStart => Sys2Proof.Machine.execMixerFrameStart s
  | .line pixels => Sys2Proof.Machine.execLine pixels s
  | .mixerFrameEnd => Sys2Proof.Machine.execMixerFrameEnd s
  | .storeFrameEnd => Sys2Proof.Machine.execStoreFrameEnd s
  | .navFrameEnd => Sys2Proof.Machine.execNavFrameEnd s
  | .activationExpiry c => Sys2Proof.Machine.execActivationExpiry c s
  | .playheadStep c button => Sys2Proof.Machine.execPlayheadStep c button s
  | .sequencerFrameEnd => Sys2Proof.Machine.execSequencerFrameEnd s
  | .dwellExpiry => Sys2Proof.Machine.execDwellExpiry s
  | .slideReady => Sys2Proof.Machine.execSlideReady s
  | .lateSlide => Sys2Proof.Machine.execLateSlide s
  | .timeTrigger => Sys2Proof.Machine.execTimeTrigger s
  | .readStrobe => Sys2Proof.Machine.execReadStrobe s
  | .resetNAsserted => Sys2Proof.Machine.execResetNAsserted s
  | .resetNReleased => Sys2Proof.Machine.execResetNReleased s

end Sys2Proof.Machine
end

