-- ==== Sys2Proof/Safety.lean ====
section
/-! DEFINITION. What statements about the part say: the conditions under which a segment is taken, the bytes of a segment
on the wire, the layouts of bodies and reports (chapter 11), the rules of chapters 7 and 8 in the statements' own terms, and
the invariants that the spec gives each block. -/

namespace Sys2Proof.Machine

open Sys2Proof

/-! ### The arrival of a segment -/

/-- RESET_N is high and a segment of `n` body bytes finds a place and room in the segment queue (R6, R10, R18). -/
def Accepts (s : State) (n : Nat) : Prop :=
  s.resetLow = false ∧ s.port.segTotal < Config.maxSegments ∧ n ≤ Config.maxBody ∧
    s.port.byteTotal + n ≤ Config.maxQueueBytes

/-- A content segment of `n` body bytes is taken as it arrives: no content waits and the decoder is free (R14). -/
def TakesContent (s : State) (n : Nat) : Prop := Accepts s n ∧ s.decoder.busy = false ∧ s.port.queue = []

/-- The state after a segment of `n` body bytes has come into the queue and left it: HOLD has been tested (R11). -/
def visited (s : State) (n : Nat) : State := s.setPort (s.port.visit n)

/-- The state after a content segment has joined the queue and stays there: HOLD has been tested (R9, R11). -/
def joined (s : State) (g : Segment) : State :=
  { s with port := Port.testHold { s.port.hunted 0 with queue := s.port.queue ++ [g] } }

/-- The sender's stuffing, after `n` (0 or 1) consecutive FF bytes: a 00 byte after every two consecutive FF bytes
(1.1). -/
def stuff : Nat → List Byte → List Byte
  | _, [] => []
  | n, b :: l =>
    if b = 0xFF then (if n = 1 then b :: 0x00 :: stuff 0 l else b :: stuff 1 l) else b :: stuff 0 l

/-- A segment on the wire: the marker, then the stuffed header and body (1.1, 1.2). -/
def wireBytes (source : Byte) (g : Segment) : List Byte :=
  [0xFF, 0xFF, 0x5A] ++ stuff 0 (g.kind.code :: source :: bytes16 g.body.length ++ g.body)

/-- Bytes strobed into the segment port one after another. -/
def strobe : List Byte → State → Host.Outcome State Fault Refusal
  | [], s => .next s
  | b :: l, s =>
    match exec (.segmentByte b) s with
    | .next t => strobe l t
    | .fault r => .fault r
    | .refused r => .refused r

/-! ### Encodings of operands (chapter 11) -/

/-- The body of an Object Data head from the version on, with its code bytes (11.4). -/
def openingRest (v : Byte) (w h : Nat) (d : Depth) (code : List Byte) : List Byte :=
  v :: bytes16 w ++ bytes16 h ++ byteOf d.bits :: code

/-- The entries of a Palette body: index, Y, Cb, Cr, A each (11.3). -/
def entryBytes (es : List (Byte × Entry)) : List Byte :=
  es.flatMap fun x => [x.1, x.2.y, x.2.cb, x.2.cr, x.2.a]

/-- The Palette command of an apply mode. -/
def paletteCommand : ApplyMode → BitVec 4 → BitVec 9 → FrameCount → List Byte → Instr
  | .hold => .paletteHold
  | .next => .paletteNext
  | .atTime => .paletteAt
  | .discard => .paletteDiscard

/-! ### The layouts of segment bodies (chapter 11)

These say again, from the tables and apart from the model's readers, which bodies pass their kind's checks and what their
fields hold. `o` is the offset at which a record begins. -/

/-- The number in the byte at an offset. -/
def num8 (b : List Byte) (o : Nat) : Nat := (b[o]?.getD 0).toNat

/-- The number in the two bytes at an offset, high byte first. -/
def num16 (b : List Byte) (o : Nat) : Nat := 256 * num8 b o + num8 b (o + 1)

/-- The mask and the compare at an offset. -/
def maskAt (b : List Byte) (o : Nat) : MaskCompare :=
  { mask := BitVec.ofNat 16 (num16 b o), compare := BitVec.ofNat 16 (num16 b (o + 2)) }

/-- The time T at an offset, four bytes. -/
def timeAt (b : List Byte) (o : Nat) : FrameCount := BitVec.ofNat 32 (65536 * num16 b o + num16 b (o + 2))

/-- A one-byte id field in which 0xFF is none. -/
def idAt (b : List Byte) (o : Nat) : Option Nat := if num8 b o = 0xFF then none else some (num8 b o)

/-- A transition kind and its length byte; a length of 0 is stored as CUT (11.2). -/
def transitionAt (b : List Byte) (o : Nat) : Transition :=
  if num8 b o = 0 ∨ num8 b (o + 1) = 0 then .cut
  else if num8 b o = 1 then .crossfade (BitVec.ofNat 8 (num8 b (o + 1)))
  else .wipe (BitVec.ofNat 8 (num8 b (o + 1)))

/-- A coordinate: two's complement, saturated to −4096..4095 (R73). -/
def coordinateAt (b : List Byte) (o : Nat) : Int :=
  let v : Int := if num16 b o < 32768 then num16 b o else num16 b o - 65536
  if v < -4096 then -4096 else if 4095 < v then 4095 else v

/-- The checks of a placement record (R73). -/
abbrev PlacementFits (b : List Byte) (o : Nat) : Prop :=
  num16 b o ≤ 511 ∧ num8 b (o + 6) ≤ 7 ∧ (num8 b (o + 8) = 1 ∨ num8 b (o + 8) = 2 ∨ num8 b (o + 8) = 4)

/-- A placement record (11.5). -/
def placementAt (b : List Byte) (o : Nat) : Placement :=
  { obj := Fin.ofNat 512 (num16 b o), x := coordinateAt b (o + 2), y := coordinateAt b (o + 4)
    palette := Fin.ofNat 8 (num8 b (o + 6)), opacity := BitVec.ofNat 8 (num8 b (o + 7))
    reduction := if num8 b (o + 8) = 1 then .one else if num8 b (o + 8) = 2 then .two else .four
    visible := num8 b (o + 9) % 2 = 1
    window := if num8 b (o + 9) / 2 % 2 = 1 then
        some { wx := BitVec.ofNat 16 (num16 b (o + 10)), wy := BitVec.ofNat 16 (num16 b (o + 12))
               ww := BitVec.ofNat 16 (num16 b (o + 14)), wh := BitVec.ofNat 16 (num16 b (o + 16)) }
      else none }

/-- The checks of a Page body (R74). -/
abbrev PageFits (b : List Byte) : Prop :=
  b.length = 5 + 18 * num8 b 4 ∧ num8 b 4 ≤ 48 ∧ num8 b 0 ≤ 31 ∧ num8 b 1 ≤ 1 ∧ (num8 b 2 ≤ 23 ∨ num8 b 2 = 0xFF) ∧
    ∀ j < num8 b 4, PlacementFits b (5 + 18 * j)

/-- The definition that a Page body gives its page (R74, 11.3). -/
def pageOf (b : List Byte) : PageDef :=
  { placements := (List.range (num8 b 4)).map fun j => placementAt b (5 + 18 * j)
    defaultButton := idAt b 2, hold := num8 b 3, buttons := [], animations := [] }

/-- The checks of a visual triple (R121); an ANIMATION index is not checked (log entry 25). -/
abbrev VisualFits (b : List Byte) (o : Nat) : Prop := num8 b o ≤ 2 ∧ (num8 b o = 1 → num16 b (o + 1) ≤ 511)

/-- A visual triple (11.6), an ANIMATION index as given (log entry 25). -/
def visualAt (b : List Byte) (o : Nat) : Visual :=
  match num8 b o with
  | 0 => .keep
  | 1 => .object (Fin.ofNat 512 (num16 b (o + 1)))
  | _ => .animation (num16 b (o + 1))

/-- The checks of an action kind and its operands (R121). -/
abbrev ActionFits (b : List Byte) (o : Nat) : Prop :=
  num8 b o ≤ 7 ∧ (num8 b o = 1 ∨ num8 b o = 2 → num8 b (o + 1) ≤ 31) ∧
    (1 ≤ num8 b o ∧ num8 b o ≤ 4 → num8 b (o + 2) ≤ 2) ∧ (num8 b o = 5 → num8 b (o + 1) ≤ 63)

/-- An action kind with its operands o0 to o3 (11.6). -/
def actionAt (b : List Byte) (o : Nat) : Action :=
  match num8 b o with
  | 0 => .none
  | 1 => .goto (Fin.ofNat 32 (num8 b (o + 1))) (transitionAt b (o + 2))
  | 2 => .replace (Fin.ofNat 32 (num8 b (o + 1))) (transitionAt b (o + 2))
  | 3 => .back (transitionAt b (o + 2))
  | 4 => .close (transitionAt b (o + 2))
  | 5 => .slidesStart (num8 b (o + 1))
  | 6 => .slidesStop
  | _ => .setFlags (BitVec.ofNat 16 (num16 b (o + 1))) (BitVec.ofNat 16 (num16 b (o + 3)))

/-- The checks of a button record against a placement count (R121). -/
abbrev ButtonFits (placements : Nat) (b : List Byte) (o : Nat) : Prop :=
  num8 b o < placements ∧ (1 ≤ num8 b (o + 1) ∧ num8 b (o + 1) ≤ 99 ∨ num8 b (o + 1) = 0xFF) ∧ num8 b (o + 6) ≤ 2 ∧
    VisualFits b (o + 11) ∧ VisualFits b (o + 14) ∧ VisualFits b (o + 17) ∧ VisualFits b (o + 20) ∧
    num8 b (o + 23) ≤ 1 ∧ ActionFits b (o + 24)

/-- A button record (11.6). -/
def buttonAt (b : List Byte) (o : Nat) : Button :=
  { placement := num8 b o, number := idAt b (o + 1)
    up := idAt b (o + 2), down := idAt b (o + 3), left := idAt b (o + 4), right := idAt b (o + 5)
    mode := match num8 b (o + 6) with
      | 0 => .none
      | 1 => .showIf
      | _ => .enableIf
    cond := maskAt b (o + 7)
    normal := visualAt b (o + 11), selected := visualAt b (o + 14), activated := visualAt b (o + 17)
    disabled := visualAt b (o + 20), auto := num8 b (o + 23) = 1, action := actionAt b (o + 24)
    notify := if num16 b (o + 29) = 0xFFFF then none else some (BitVec.ofNat 16 (num16 b (o + 29))) }

/-- The checks of a Buttons body (R121): the placement count is that of the pending definition where there is one (R76). -/
abbrev ButtonsFits (s : State) (b : List Byte) : Prop :=
  let page := s.engine.page (Fin.ofNat 32 (num8 b 0))
  b.length = 3 + 31 * num8 b 2 ∧ num8 b 2 ≤ 24 ∧ num8 b 0 ≤ 31 ∧ num8 b 1 ≤ 1 ∧ page.defined = true ∧
    (∀ j < num8 b 2,
      ButtonFits ((page.waiting.map PendingDef.body).getD page.cur).placements.length b (3 + 31 * j)) ∧
    ∀ j < num8 b 2, ∀ i < j, num8 b (3 + 31 * i) ≠ num8 b (3 + 31 * j)

/-- The button table of a Buttons body. -/
def buttonsOf (b : List Byte) : List Button := (List.range (num8 b 2)).map fun j => buttonAt b (3 + 31 * j)

/-- Where animation record m of an Animations body begins: the records follow one another without gaps (11.7). -/
def animationFrom (b : List Byte) (m : Nat) : Nat := Nat.iterate (fun o => o + 2 + 3 * num8 b (o + 1)) m 3

/-- The checks of an animation record (R122). -/
abbrev AnimationFits (b : List Byte) (o : Nat) : Prop :=
  num8 b o ≤ 1 ∧ 1 ≤ num8 b (o + 1) ∧ num8 b (o + 1) ≤ 16 ∧
    ∀ j < num8 b (o + 1), (num16 b (o + 2 + 3 * j) ≤ 511 ∨ num16 b (o + 2 + 3 * j) = 0xFFFF) ∧ num8 b (o + 4 + 3 * j) ≠ 0

/-- An animation record (11.7). -/
def animationAt (b : List Byte) (o : Nat) : Animation :=
  { mode := if num8 b o = 0 then .once else .loop
    entries := (List.range (num8 b (o + 1))).map fun j =>
      { obj := if num16 b (o + 2 + 3 * j) = 0xFFFF then none else some (Fin.ofNat 512 (num16 b (o + 2 + 3 * j)))
        hold := num8 b (o + 4 + 3 * j) } }

/-- The checks of an Animations body (R122). -/
abbrev AnimationsFits (s : State) (b : List Byte) : Prop :=
  b.length = animationFrom b (num8 b 2) ∧ num8 b 2 ≤ 8 ∧ num8 b 0 ≤ 31 ∧ num8 b 1 ≤ 1 ∧
    (s.engine.page (Fin.ofNat 32 (num8 b 0))).defined = true ∧ ∀ m < num8 b 2, AnimationFits b (animationFrom b m)

/-- The animation table of an Animations body. -/
def animationsOf (b : List Byte) : List Animation := (List.range (num8 b 2)).map fun m => animationAt b (animationFrom b m)

/-- The checks of a Show body (R82). -/
abbrev ShowFits (b : List Byte) : Prop :=
  b.length = 9 ∧ num8 b 0 ≤ 2 ∧ (num8 b 1 ≤ 31 ∨ num8 b 1 = 0xFF) ∧ num8 b 2 ≤ 1 ∧ num8 b 7 ≤ 2

/-- The entry that a Show body asks for, its late flag clear (R82, 11.3). -/
def showOf (b : List Byte) : ShowEntry :=
  { ctx := match num8 b 0 with
      | 0 => .slide
      | 1 => .menu
      | _ => .popup
    page := if num8 b 1 = 0xFF then none else some (Fin.ofNat 32 (num8 b 1))
    time := if num8 b 2 = 1 then some (timeAt b 3) else none
    trans := transitionAt b 7, origin := .segment, restore := none, late := false }

/-- The checks of a configuration (R148). -/
abbrev ConfigFits (b : List Byte) (o : Nat) : Prop :=
  num8 b o ≤ 3 ∧ num8 b (o + 9) ≤ 2 ∧ num8 b (o + 14) ≤ 63 ∧ num8 b (o + 15) ≤ 2

/-- A configuration (11.8). -/
def configAt (b : List Byte) (o : Nat) : SlideConfig :=
  { startKind := match num8 b o with
      | 0 => .command
      | 1 => .button
      | 2 => .time
      | _ => .flags
    startTime := timeAt b (o + 1), startCond := maskAt b (o + 5)
    stopKind := match num8 b (o + 9) with
      | 0 => .command
      | 1 => .button
      | _ => .flags
    stopCond := maskAt b (o + 10), drainCount := num8 b (o + 14)
    endMode := match num8 b (o + 15) with
      | 0 => .once
      | 1 => .rep
      | _ => .loop }

/-- The checks of a Slide List body (R147). -/
abbrev SlideListFits (b : List Byte) : Prop :=
  b.length = 18 + 10 * num8 b 0 ∧ num8 b 0 ≤ 64 ∧ ConfigFits b 1 ∧ num8 b 17 ≤ 1 ∧
    ∀ j < num8 b 0, num8 b (18 + 10 * j) ≤ 31 ∧ num8 b (18 + 10 * j + 3) ≤ 2

/-- A slide entry (11.8). -/
def slideAt (b : List Byte) (o : Nat) : SlideEntry :=
  { page := Fin.ofNat 32 (num8 b o), duration := num16 b (o + 1), trans := transitionAt b (o + 3)
    cue := if num8 b (o + 5) = 0xFF then none else some (BitVec.ofNat 8 (num8 b (o + 5))), cond := maskAt b (o + 6) }

/-- The entries of a Slide List body. -/
def slidesOf (b : List Byte) : List SlideEntry := (List.range (num8 b 0)).map fun j => slideAt b (18 + 10 * j)

/-- The checks of a segment's body, kind by kind: R70, R39, R32, R57 (with the control byte of 11.3), R74, R121, R122, R78,
R82, R147, R131, R117, R68, R99, R149, R172, R171, R173. -/
abbrev BodyFits (s : State) (g : Segment) : Prop :=
  let b := g.body
  match g.kind with
  | .setOpen => b.length = 3 ∧ (num8 b 2 ≤ 31 ∨ num8 b 2 = 0xFF)
  | .objectData =>
    3 ≤ b.length ∧ num16 b 0 ≤ 511 ∧ num8 b 2 ≤ 3 ∧
      (num8 b 2 = 0 ∨ num8 b 2 = 3 →
        9 ≤ b.length ∧ 1 ≤ num16 b 4 ∧ num16 b 4 ≤ 1920 ∧ 1 ≤ num16 b 6 ∧ num16 b 6 ≤ 1080 ∧
          (num8 b 8 = 2 ∨ num8 b 8 = 4 ∨ num8 b 8 = 8))
  | .objectDrop => b.length = 2 ∧ num16 b 0 ≤ 511
  | .palette =>
    let count := 256 * (num8 b 0 / 128) + num8 b 1
    b.length = 6 + 5 * count ∧ count ≤ 256 ∧ num8 b 0 % 16 ≤ 7 ∧ num8 b 0 / 16 % 8 ≤ 3
  | .page => PageFits b
  | .buttons => ButtonsFits s b
  | .animations => AnimationsFits s b
  | .scroll =>
    let page := s.engine.page (Fin.ofNat 32 (num8 b 0))
    b.length = 6 ∧ num8 b 0 ≤ 31 ∧ page.defined = true ∧ num8 b 1 < page.cur.placements.length
  | .showPage => ShowFits b
  | .slideList => SlideListFits b
  | .key => b.length = 3 ∧ num8 b 0 ≤ 7 ∧ num8 b 2 ≤ 1 ∧ (num8 b 0 = 6 → 1 ≤ num8 b 1 ∧ num8 b 1 ≤ 99)
  | .flags | .clock => b.length = 4
  | .output => b.length = 4 ∧ num8 b 0 ≤ 2
  | .slideControl =>
    num8 b 0 ≤ 8 ∧ b.length = (if num8 b 0 = 0 then 17 else 1) ∧ (num8 b 0 = 0 → ConfigFits b 1)
  | .statusRequest | .restart => b = []
  | .attentionMask => b.length = 1 ∧ num8 b 0 < 128

/-! ### The layout of reports (R170, 11.9, 11.10) -/

/-- The table of 11.10 with the classes of R170: the number of the class, the kind code and the kind fields. -/
def reportRow (r : ReportBody) : Nat × Byte × List Byte :=
  let one (n : Nat) : Byte := BitVec.ofNat 8 n
  let two (n : Nat) : List Byte := [one (n / 256), one n]
  let page : Option PageId → Byte
    | some p => one p.val
    | none => 0xFF
  let entry : Option Nat → Byte
    | some e => one e
    | none => 0xFF
  let ctx : Ctx → Byte
    | .slide => 0
    | .menu => 1
    | .popup => 2
  let origin : Origin → Byte
    | .segment => 0
    | .navigation => 1
    | .sequencer => 2
  match r with
  | .restartDone c mask => (0, 0x01, [if c = .pin then 0 else 1, mask])
  | .statusOne x =>
    (0, 0x02, 1 :: two x.free ++ two x.slots ++ two x.setId.toNat ++ [page x.slide, page x.menu, page x.popup, one x.patch])
  | .statusTwo x =>
    let run : Byte := match x.run with
      | .idle => 0
      | .armed => 1
      | .running => 2
      | .held => 3
      | .draining => 4
      | .ended => 5
    (0, 0x02, [2, run, entry x.shown] ++ two x.flags.toNat ++ one x.segments :: two x.bytes ++ two x.width ++ two x.height)
  | .framing k n => (1, 0x10, k :: two n)
  | .truncated k n => (1, 0x11, k :: two n)
  | .oversize k n => (1, 0x12, k :: two n)
  | .overrun k n l => (1, 0x13, k :: two n ++ [if l = .segments then 0 else 1])
  | .unknownKind k n => (1, 0x14, k :: two n)
  | .malformed k n => (1, 0x15, k :: two n)
  | .source k n => (1, 0x16, k :: two n)
  | .ready k v f => (2, 0x20, two k.val ++ [v, if f then 1 else 0])
  | .noSpace k g n => (2, 0x21, two k.val ++ two g ++ two n)
  | .abandoned k v why =>
    let reason : Byte := match why with
      | .otherObject => 0
      | .superseded => 1
      | .damaged => 2
      | .dropped => 3
    (2, 0x22, two k.val ++ [v, reason])
  | .damaged k row => (2, 0x23, two k.val ++ two row)
  | .strayFragment k pos =>
    let position : Byte := match pos with
      | .first => 0
      | .middle => 1
      | .last => 2
      | .only => 3
    (2, 0x24, two k.val ++ [position])
  | .shown c p => (3, 0x30, [ctx c, page p])
  | .late c p n => (3, 0x31, [ctx c, page p] ++ two n)
  | .superseded c p o => (3, 0x32, [ctx c, page p, origin o])
  | .scheduleFull c p o => (3, 0x33, [ctx c, page p, origin o])
  | .undefinedPage c p => (3, 0x34, [ctx c, one p.val])
  | .pageBusy c p h => (3, 0x35, [ctx c, one p.val, ctx h])
  | .patchBusy q p => (3, 0x36, [one q.val, one p.val])
  | .patchApplied p n => (3, 0x37, one p.val :: two n)
  | .action p i code => (4, 0x40, page p :: one i :: two code.toNat)
  | .flagsChanged f => (4, 0x41, two f.toNat)
  | .keyDropped k n =>
    let key : Byte := match k with
      | .up => 0
      | .down => 1
      | .left => 2
      | .right => 3
      | .ok => 4
      | .back => 5
      | .number => 6
      | .popup => 7
    (4, 0x42, [key, n])
  | .stackEmpty c p => (4, 0x43, [ctx c, page p])
  | .cue e c => (5, 0x50, [one e, c])
  | .started e source =>
    let from_ : Byte := match source with
      | .command => 0
      | .button => 1
      | .time => 2
      | .flags => 3
    (5, 0x51, [one e, from_])
  | .ended why e =>
    let reason : Byte := match why with
      | .stop => 0
      | .drained => 1
      | .finish => 2
      | .empty => 3
    (5, 0x52, [reason, entry e])
  | .lateSlide e p => (5, 0x53, [one e, one p.val])
  | .emptyRun e n => (5, 0x54, [entry e, one n])
  | .slideBusyShow => (5, 0x55, [0x18, 0xFF])
  | .slideBusyList => (5, 0x55, [0x19, 0xFF])
  | .slideBusyControl op =>
    let operation : Byte := match op with
      | .configure => 0
      | .arm => 1
      | .disarm => 2
      | .start => 3
      | .stop => 4
      | .pause => 5
      | .resume => 6
      | .next => 7
      | .prev => 8
    (5, 0x55, [0x24, operation])
  | .entrySkipped e p => (5, 0x56, [one e, one p.val])
  | .overload lines spans => (6, 0x60, two lines ++ two spans)
  | .rasterBad w h => (6, 0x61, two w ++ two h)
  | .rasterOk w h => (6, 0x62, two w ++ two h)

/-- A report on the report port: L, class with lost flag, kind, FC, kind fields (R167, 11.9). -/
def reportBytes (r : Report) : List Byte :=
  let row := reportRow r.body
  let fc := r.fc.toNat
  [BitVec.ofNat 8 (6 + row.2.2.length), BitVec.ofNat 8 (row.1 + if r.lost then 128 else 0), row.2.1,
    BitVec.ofNat 8 (fc / 2 ^ 24), BitVec.ofNat 8 (fc / 2 ^ 16), BitVec.ofNat 8 (fc / 2 ^ 8), BitVec.ofNat 8 fc] ++ row.2.2

/-! ### The rules of chapters 7 and 8 that several statements ask for

These say again, from the rules and apart from the meanings, what a scan, a run's start, advance and end, and a button that
enters a state come to. A pair is the sequencer with the report unit. -/

/-- A scan over entries in a given order (R146, R153): the first entry whose condition is true and whose page is defined, and
the report unit after ENTRY-SKIPPED for each entry before it whose condition is true. -/
def scanByRule (defined : PageId → Bool) (fc : FrameCount) (q : Sequencer) (order : List Nat) (r : ReportUnit) :
    Option Nat × ReportUnit :=
  let wanted (i : Nat) : Option SlideEntry := q.list[i]?.filter fun e => e.cond.holds q.flagsCopy
  let eligible (i : Nat) : Bool := (wanted i).any fun e => defined e.page
  (order.find? eligible,
    (order.takeWhile fun i => !eligible i).foldl (fun r i => match wanted i with
      | some e => r.enqueue fc (.entrySkipped i e.page)
      | none => r) r)

/-- A run ends (R162). -/
def endByRule (fc : FrameCount) (why : EndReason) (q : Sequencer) (r : ReportUnit) : Sequencer × ReportUnit :=
  ({ q with run := .ended, target := none, dwell := .absent, drain := 0 }, r.enqueue fc (.ended why q.shown))

/-- The reference entry: the target, else the placed entry, else the shown entry (R153). -/
def referenceByRule (q : Sequencer) : Option Nat := (q.target.map Target.entry).or ((q.placed.map Placed.entry).or q.shown)

/-- An advance from a reference entry (R153, R154): in DRAINING with no drain remaining the run ends with DRAINED; else the
scan goes from the entry after the reference entry to the last one and, in LOOP, on from entry 0 to the reference entry, and
an advance in DRAINING is counted. A scan that finds none ends the run, with EMPTY-RUN in LOOP. -/
def advanceByRule (defined : PageId → Bool) (fc : FrameCount) (ref : Option Nat) (q : Sequencer) (r : ReportUnit) :
    Sequencer × ReportUnit :=
  if q.run = .draining ∧ q.drain = 0 then endByRule fc .drained q r
  else
    let first := (ref.map (· + 1)).getD 0
    let all := List.range q.list.length
    let order := all.filter (first ≤ ·) ++ if q.config.endMode = .loop then all.filter (· < first) else []
    match scanByRule defined fc q order r with
    | (some i, r) =>
      ({ q with
         target := some { entry := i, ready := false, wait := 0 }, dwell := .absent
         drain := if q.run = .draining then q.drain - 1 else q.drain }, r)
    | (none, r) =>
      if q.config.endMode = .loop then endByRule fc .empty q (r.enqueue fc (.emptyRun ref q.list.length))
      else endByRule fc .finish q r

/-- PREV (R160): the first eligible entry before the reference entry, descending and, in LOOP, on from the last entry down to
the one after it. Without a reference entry it is ignored (log entry 16). -/
def backByRule (defined : PageId → Bool) (fc : FrameCount) (q : Sequencer) (r : ReportUnit) : Sequencer × ReportUnit :=
  match referenceByRule q with
  | none => (q, r)
  | some m =>
    let all := List.range q.list.length
    let order := (all.filter (· < m)).reverse ++ if q.config.endMode = .loop then (all.filter (m < ·)).reverse else []
    match scanByRule defined fc q order r with
    | (some i, r) => ({ q with target := some { entry := i, ready := false, wait := 0 }, dwell := .absent }, r)
    | (none, r) => (q, r)

/-- A start trigger that counts, with the entry a button names or 0 (R151, R153). In LOOP the scan goes on from entry 0; from
an entry at or beyond the list count it examines nothing. -/
def startByRule (defined : PageId → Bool) (fc : FrameCount) (source : StartedBy) (entry : Nat) (q : Sequencer)
    (r : ReportUnit) : Sequencer × ReportUnit :=
  if q.run = .armed ∨ (q.run = .ended ∧ q.config.endMode ≠ .once) then
    let e := if q.run = .armed then entry else 0
    let all := List.range q.list.length
    let order := if q.list.length ≤ e then []
      else all.filter (e ≤ ·) ++ if q.config.endMode = .loop then all.filter (· < e) else []
    match scanByRule defined fc q order r with
    | (some i, r) =>
      ({ q with
         run := .running, target := some { entry := i, ready := false, wait := 0 }, dwell := .absent, drain := 0 },
        r.enqueue fc (.started i source))
    | (none, r) => endByRule fc .empty q (r.enqueue fc (.emptyRun (some e) q.list.length))
  else (q, r)

/-- A stop trigger that counts (R152). -/
def stopByRule (fc : FrameCount) (q : Sequencer) (r : ReportUnit) : Sequencer × ReportUnit :=
  if q.run = .running ∨ q.run = .held then
    if q.config.drainCount = 0 then endByRule fc .stop q r
    else ({ q with run := .draining, drain := q.config.drainCount }, r)
  else (q, r)

/-- The notice that the flags word has become `new` (R150): a FLAGS source whose condition turns true gives its trigger, in
the run state that the notice found. -/
def flagsByRule (defined : PageId → Bool) (fc : FrameCount) (new : Half) (q : Sequencer) (r : ReportUnit) :
    Sequencer × ReportUnit :=
  let turns (m : MaskCompare) : Prop := q.flagsCopy &&& m.mask ≠ m.compare ∧ new &&& m.mask = m.compare
  let q1 := { q with flagsCopy := new }
  if q.config.startKind = .flags ∧ turns q.config.startCond ∧ (q.run = .armed ∨ q.run = .ended) then
    startByRule defined fc .flags 0 q1 r
  else if q.config.stopKind = .flags ∧ turns q.config.stopCond then stopByRule fc q1 r
  else (q1, r)

/-- The animation that a button's visual names in a state, if that is a valid one (R120, R124). -/
def animationByRule (d : PageDef) (b : Button) (x : ButtonState) : Option Animation :=
  let visual : Visual := match x with
    | .hidden => .keep
    | .disabled => if b.disabled = .keep then b.normal else b.disabled
    | .normal => b.normal
    | .selected => b.selected
    | .activating => b.activated
  match visual with
  | .animation ix => d.animations[ix]?
  | _ => none

/-- The playhead of a button that enters a state (R126): at the first entry of the state's animation. -/
def headByRule (d : PageDef) (b : Button) (x : ButtonState) (fresh : Bool) : Option Playhead :=
  (animationByRule d b x).map fun a => { entry := 0, left := (a.entries[0]?.map AnimEntry.hold).getD 0, fresh := fresh }

/-- One step of a playhead that was not restarted in the same frame end (R126). -/
def stepByRule (a : Animation) (h : Playhead) : Playhead :=
  let hold (j : Nat) := (a.entries[j]?.map AnimEntry.hold).getD 0
  if h.left = 0 then h
  else if 1 < h.left then { h with left := h.left - 1 }
  else if h.entry + 1 < a.entries.length then { h with entry := h.entry + 1, left := hold (h.entry + 1) }
  else match a.mode with
    | .loop => { h with entry := 0, left := hold 0 }
    | .once => { h with left := 0 }

/-- Button m as its page is shown or redefined (R128 steps 5 and 6, R130), given the selected and the activating button. -/
def buttonByRule (d : PageDef) (flags : Half) (selected activating : Option Nat) (m : Nat) (b : Button) : ButtonNav :=
  let x : ButtonState :=
    if activating = some m then .activating
    else if selected = some m then .selected
    else if b.mode = .none ∨ flags &&& b.cond.mask = b.cond.compare then .normal
    else if b.mode = .showIf then .hidden
    else .disabled
  { state := x, head := headByRule d b x false }

/-- The current definition of a context's navigation page; blank where it has none. -/
def shownDef (s : State) (c : NavCtx) : PageDef :=
  match (s.nav.get c).page with
  | some p => (s.engine.page p).cur
  | none => { placements := [], defaultButton := none, hold := 0, buttons := [], animations := [] }

/-- Button m enters state x, unless it is in it: its playhead is set, with the mark that it was restarted in this frame end
(R126, log entry 8). -/
def enterByRule (d : PageDef) (m : Nat) (x : ButtonState) (n : NavState) : NavState :=
  { n with buttons := n.buttons.mapIdx fun i y => match d.buttons[i]? with
      | some b => if i = m ∧ y.state ≠ x then { state := x, head := headByRule d b x true } else y
      | none => y }

/-- The navigation unit inserts an entry without T and, where the schedule has room, the context's page stack becomes
`stack`; else SCHEDULE-FULL is raised (R83, R141). -/
def insertByRule (c : NavCtx) (page : Option PageId) (t : Transition) (restore : Option Nat)
    (stack : List (PageId × Option Nat)) (s : State) : State :=
  if s.engine.schedule.length < 8 then
    { s with
      engine := { s.engine with schedule := s.engine.schedule ++
        [{ ctx := ctxOf c, page := page, time := none, trans := t, origin := .navigation, restore := restore,
           late := false }] }
      nav := s.nav.set { s.nav.get c with stack := stack } c }
  else { s with report := s.report.enqueue s.engine.fc (.scheduleFull (ctxOf c) page .navigation) }

/-- An action is performed in context c (R141): a push keeps the last 8 entries (R140); SLIDES-START and SLIDES-STOP count
where the source is BUTTON (R148); a SET-FLAGS that changes the word raises FLAGS-CHANGED, sets the mark and tells the
sequencer (R118), in that order (log entry 29). -/
def actionByRule (c : NavCtx) (a : Action) (s : State) : State :=
  let n := s.nav.get c
  let fc := s.engine.fc
  let defined (p : PageId) : Bool := (s.engine.page p).defined
  let heard (s : State) (u : Sequencer × ReportUnit) : State := { s with seq := u.1, report := u.2 }
  match a with
  | .none => s
  | .goto q t => insertByRule c (some q) t none (match n.page with
      | some p => (if 8 ≤ n.stack.length then n.stack.drop 1 else n.stack) ++ [(p, n.selected)]
      | none => n.stack) s
  | .replace q t => insertByRule c (some q) t none n.stack s
  | .back t =>
    match n.stack.getLast?, c with
    | some top, _ => insertByRule c (some top.1) t top.2 n.stack.dropLast s
    | none, .menu => { s with report := s.report.enqueue fc (.stackEmpty .menu n.page) }
    | none, .popup => insertByRule c none t none n.stack s
  | .close t => insertByRule c none t none [] s
  | .slidesStart e =>
    if s.seq.config.startKind = .button then heard s (startByRule defined fc .button e s.seq s.report) else s
  | .slidesStop => if s.seq.config.stopKind = .button then heard s (stopByRule fc s.seq s.report) else s
  | .setFlags set clear =>
    let new := (s.nav.flags &&& ~~~clear) ||| set
    if new = s.nav.flags then s
    else heard { s with nav := { s.nav with flags := new, flagsChanged := true } }
      (flagsByRule defined fc new s.seq (s.report.enqueue fc (.flagsChanged new)))

/-- An activation of button i ends (R134, R138, R141): the button returns to SELECTED, the activation is gone, ACTION is
raised where the button has a notify code, and its action is performed. -/
def endActivationByRule (c : NavCtx) (i : Nat) (s : State) : State :=
  let d := shownDef s c
  let n := s.nav.get c
  let s1 := { s with nav := s.nav.set { enterByRule d i .selected n with activation := none } c }
  match d.buttons[i]? with
  | none => s1
  | some b =>
    actionByRule c b.action
      { s1 with report := match b.notify with
          | some code => s.report.enqueue s.engine.fc (.action n.page i code)
          | none => s.report }

/-- Step 1 in one context (R133): a button whose condition is false is HIDDEN or DISABLED, one whose condition has turned
true NORMAL; a selected button no longer selectable gives way to the lowest selectable one, which is SELECTED, or to none;
an activation of a button no longer selectable is gone. A changed state sets its playhead. -/
def evaluateByRule (d : PageDef) (flags : Half) (n : NavState) : NavState :=
  let holds (i : Nat) : Bool := d.buttons[i]?.any fun b => b.mode == .none || flags &&& b.cond.mask == b.cond.compare
  let lowest := (List.range d.buttons.length).find? holds
  let moves : Bool := n.selected.any fun i => !holds i
  { n with
    selected := if moves then lowest else n.selected
    activation := n.activation.filter fun a => holds a.button
    buttons := n.buttons.mapIdx fun i y => match d.buttons[i]? with
      | none => y
      | some b =>
        let x : ButtonState :=
          if holds i = false then (if b.mode = .showIf then .hidden else .disabled)
          else if moves = true ∧ lowest = some i then .selected
          else if y.state = .hidden ∨ y.state = .disabled then .normal
          else y.state
        if x = y.state then y else { state := x, head := headByRule d b x true } }

/-- Step 2 in one context (R134). -/
def countByRule (c : NavCtx) (s : State) : State :=
  let n := s.nav.get c
  match n.activation with
  | none => s
  | some a =>
    if 1 < a.left then { s with nav := s.nav.set { n with activation := some { a with left := a.left - 1 } } c }
    else endActivationByRule c a.button s

/-- Selectable as the last evaluation found it (R123, log entry 12). -/
def NavState.offers (n : NavState) (i : Nat) : Bool := n.buttons[i]?.any fun x => x.state != .hidden && x.state != .disabled

/-- Where an arrow key moves the selection (R137): with none selected to the lowest selectable button; else along the
neighbours, of which the first hop, of at most 24, that reaches none, the button it began at or a selectable button ends
the search, and only the last of these moves. -/
def arrowByRule (d : PageDef) (n : NavState) (dir : Direction) : Option Nat :=
  match n.selected with
  | none => (List.range d.buttons.length).find? n.offers
  | some i =>
    let neighbour (j : Nat) : Option Nat := (d.buttons[j]?.bind fun b => match dir with
      | .up => b.up
      | .down => b.down
      | .left => b.left
      | .right => b.right).filter (· < d.buttons.length)
    let hop (k : Nat) : Option Nat := Nat.iterate (fun x => x.bind neighbour) k (some i)
    let ends (k : Nat) : Bool := (hop k).all fun j => j = i ∨ n.offers j = true
    ((List.range' 1 24).find? ends).bind fun k => (hop k).filter (· ≠ i)

/-- Button j becomes SELECTED and the button that was selected NORMAL (R137, R138). -/
def selectByRule (c : NavCtx) (j : Nat) (s : State) : State :=
  let d := shownDef s c
  let n := s.nav.get c
  let left := match n.selected with
    | some i => if i = j then n else enterByRule d i .normal n
    | none => n
  { s with nav := s.nav.set { enterByRule d j .selected left with selected := some j } c }

/-- Button j is activated (R138): ACTIVATING with the page's activation hold; a hold of 0 ends at once. -/
def activateByRule (c : NavCtx) (j : Nat) (s : State) : State :=
  let d := shownDef s c
  let n := { enterByRule d j .activating (s.nav.get c) with activation := some { button := j, left := d.hold } }
  let s1 := { s with nav := s.nav.set n c }
  if d.hold = 0 then endActivationByRule c j s1 else s1

/-- One key of step 3 (R135 to R139), with the notices of SLIDE focus (R136, R160; log entry 16 without a reference entry). -/
def keyByRule (e : KeyEntry) (s : State) : State :=
  let focus : Option NavCtx :=
    if s.nav.popup.page ≠ none then some .popup
    else if s.nav.menu.page ≠ none ∧ (shownDef s .menu).buttons ≠ [] then some .menu
    else none
  let defined (p : PageId) : Bool := (s.engine.page p).defined
  let heard (u : Sequencer × ReportUnit) : State := { s with seq := u.1, report := u.2 }
  let move (c : NavCtx) (dir : Direction) : State := match arrowByRule (shownDef s c) (s.nav.get c) dir with
    | none => s
    | some j =>
      if (shownDef s c).buttons[j]?.any Button.auto then activateByRule c j (selectByRule c j s) else selectByRule c j s
  match e.key, focus with
  | .popup, _ =>
    if s.nav.popup.page ≠ none then insertByRule .popup none .cut none [] s
    else match s.engine.popupPage with
      | some p => insertByRule .popup (some p) .cut none s.nav.popup.stack s
      | none => s
  | key, some c =>
    if (s.nav.get c).activation ≠ none then s
    else match key with
      | .up => move c .up
      | .down => move c .down
      | .left => move c .left
      | .right => move c .right
      | .ok => match (s.nav.get c).selected with
        | some i => activateByRule c i s
        | none => s
      | .number =>
        let d := shownDef s c
        match (List.range d.buttons.length).find? fun i =>
          (s.nav.get c).offers i && (d.buttons[i]?.bind Button.number == some e.number.toNat) with
        | some j => activateByRule c j (selectByRule c j s)
        | none => s
      | .back => actionByRule c (.back .cut) s
      | .popup => s
  | .right, none =>
    if s.seq.run = .running ∨ s.seq.run = .held ∨ s.seq.run = .draining then
      heard (advanceByRule defined s.engine.fc (referenceByRule s.seq) s.seq s.report)
    else s
  | .left, none =>
    if s.seq.run = .running ∨ s.seq.run = .held then heard (backByRule defined s.engine.fc s.seq s.report) else s
  | .ok, none => { s with seq := { s.seq with run := match s.seq.run with
      | .running => .held
      | .held => .running
      | r => r } }
  | _, none => s

/-- The navigation unit at a frame end (R132): F is taken and, where a mark is set, both marks are cleared and both contexts
evaluated; activations count down; the oldest key is taken; the playheads that these steps did not restart step. MENU goes
before POPUP. The model's own marks of restarts are cleared first (log entry 30) and at the step they stand for. -/
def navEndByRule (s : State) : State :=
  let cleared (n : NavState) : NavState :=
    { n with buttons := n.buttons.map fun y => { y with head := y.head.map fun h => { h with fresh := false } } }
  let evaluated (c : NavCtx) : NavState :=
    let n := cleared (s.nav.get c)
    if s.nav.flagsChanged = true ∨ s.nav.redefined = true then evaluateByRule (shownDef s c) s.nav.flags n else n
  let s1 := { s with nav := { s.nav with
    resting := s.nav.flags, flagsChanged := false, redefined := false, menu := evaluated .menu, popup := evaluated .popup } }
  let s2 := countByRule .popup (countByRule .menu s1)
  let s3 := match s2.nav.keys with
    | [] => s2
    | e :: rest => keyByRule e { s2 with nav := { s2.nav with keys := rest } }
  let stepped (c : NavCtx) : NavState :=
    let n := s3.nav.get c
    { n with buttons := n.buttons.mapIdx fun i y =>
        match (shownDef s3 c).buttons[i]?.bind fun b => animationByRule (shownDef s3 c) b y.state with
        | none => y
        | some a => { y with head := y.head.map fun h => if h.fresh then { h with fresh := false } else stepByRule a h } }
  { s3 with nav := { s3.nav with menu := stepped .menu, popup := stepped .popup } }

/-! ### The segment port -/

/-- The receiver's fields fit its state (R1, R6 to R8). -/
def Receiver.Sound : Receiver → Prop
  | .hunt => True
  | .header got => got.length < 4
  | .body h got => got.length < h.length ∧ h.length ≤ Config.maxBody ∧ (kindOf h.kind).isSome = true
  | .skip h n => n < h.length ∧ h.length ≤ Config.maxBody

/-- The segment port keeps its limits (R9, R10), HOLD is what its test gives (R11) unless the pin asserts it (R18), and
content waits behind a busy decoder and only there (R14). -/
structure PortInv (s : State) : Prop where
  segments : s.port.segTotal ≤ Config.maxSegments
  bytes : s.port.byteTotal ≤ Config.maxQueueBytes
  receiver : s.port.rx.Sound
  holdTested : s.resetLow = false → holdLevel s.port.segTotal s.port.byteTotal s.port.hold = s.port.hold
  heldPort : s.resetLow = true → s.port = Port.reset true
  head : s.decoder.busy = true → ∃ g rest, s.port.queue = g :: rest ∧ g.kind = .objectData
  waits : s.decoder.busy = false → s.port.queue = []

/-! ### Object store, decoder and memory -/

/-- Every granule of the free list and of all chains, slot by slot. -/
def Store.granules (st : Store) : List Granule :=
  st.free ++ tableJoin (fun _ x => x.currentChain ++ x.incomingChain) st.slots

/-- A version's chain has the granules its size needs (R22). -/
def Version.Sized (v : Version) : Prop := v.chain.length = granulesNeeded v.width v.height v.depth

/-- The load a version belongs to. -/
def Load.Builds (l : Load) (v : Version) : Prop :=
  l.version = v.number ∧ l.width = v.width ∧ l.height = v.height ∧ l.depth = v.depth

/-- The object store's laws: each granule is on the free list or in one chain, once (R19, R20); chains have the size
of R22; the one load in progress is the decoder's (2.3). -/
structure StoreInv (s : State) : Prop where
  law : s.store.granules.Perm (List.finRange Config.numGranules)
  sizedCurrent : ∀ k v, (s.store.slot k).current = some v → v.Sized
  sizedIncoming : ∀ k v, (s.store.slot k).incoming = some v → v.Sized
  built : ∀ k v, (s.store.slot k).building = some v → ∃ l, s.decoder.load? = some l ∧ l.id = k ∧ l.Builds v
  held : ∀ l, s.decoder.load? = some l → (s.store.slot l.id).building.isSome = true

/-! ### Colours -/

/-- Y 16–235, Cb and Cr 16–240 (00_scope.md, Conventions). -/
def LegalColour (y cb cr : Byte) : Prop :=
  (16 ≤ y.toNat ∧ y.toNat ≤ 235) ∧ (16 ≤ cb.toNat ∧ cb.toNat ≤ 240) ∧ 16 ≤ cr.toNat ∧ cr.toNat ≤ 240

/-- A palette entry of a legal colour (R55). -/
def Entry.Legal (e : Entry) : Prop := LegalColour e.y e.cb e.cr

/-- A pixel of a legal colour. -/
def LegalPixel (p : Pixel) : Prop := LegalColour p.y p.cb p.cr

/-- The touched set of a patch (R56). -/
def Patch.touched : Patch → Touched
  | .closed => []
  | .collecting _ t | .scheduled _ t _ => t

/-- Every stored colour is legal (R55, R58, R99), and the touched set is a map of indexes 0–255 (R56). -/
structure ColourInv (s : State) : Prop where
  live : ∀ (p : PaletteId) (ix : Byte), (s.palette.entry p ix).Legal
  touched : ∀ x ∈ s.palette.patch.touched, x.1 < Config.paletteSize ∧ x.2.Legal
  rising : (s.palette.patch.touched.map Prod.fst).Pairwise (· < ·)
  fill : LegalPixel s.mixer.out.fill
  pendingFill : ∀ o, s.mixer.pendingOut = some o → LegalPixel o.fill

/-! ### The composition engine -/

/-- A TRANSITION has step 1–N of length 1–255 and never both pages none (R80). -/
def CtxState.Sound : CtxState → Prop
  | .empty | .showing _ => True
  | .transition i o _ n j => 1 ≤ j ∧ j ≤ n ∧ n ≤ 255 ∧ ¬(i = none ∧ o = none)

/-- A page is in use in at most one display context (R87). -/
def Contexts.Exclusive (cs : Contexts) : Prop :=
  ∀ c d p, p ∈ (cs.get c).pages → p ∈ (cs.get d).pages → c = d

/-- The composition engine's laws (R80, R81, R87). -/
structure EngineInv (s : State) : Prop where
  schedule : s.engine.schedule.length ≤ Config.maxSchedule
  contexts : ∀ c, (s.engine.contexts.get c).Sound
  exclusive : s.engine.contexts.Exclusive
  inUseDefined : ∀ p ∈ s.engine.contexts.pages, (s.engine.page p).defined = true

/-! ### The navigation unit -/

/-- A navigation state's own laws: at most 8 stack entries (R140), and the activating button is the selected one
(R134, R138). -/
def NavState.Sound (n : NavState) : Prop :=
  n.stack.length ≤ Config.maxStack ∧ ∀ a, n.activation = some a → n.selected = some a.button

/-- The navigation unit's laws (R131, R140), a state for each button of the navigation page (R127), and what it learns by
notices: the page each context presents (R127, R128), as the sequencer learns SLIDE's page and the flags word (R145). -/
structure NavInv (s : State) : Prop where
  keys : s.nav.keys.length ≤ Config.maxKeys
  menu : s.nav.menu.Sound
  popup : s.nav.popup.Sound
  tables : ∀ c, (s.nav.get c).buttons.length = (shownDef s c).buttons.length
  menuPage : s.nav.menu.page = s.engine.contexts.menu.presented
  popupPage : s.nav.popup.page = s.engine.contexts.popup.presented
  slidePage : s.seq.slidePage = s.engine.contexts.slide.presented
  flagsCopy : s.seq.flagsCopy = s.nav.flags

/-! ### The slide sequencer -/

/-- The sequencer's laws: a target only in a running state, the dwell only there and only without a target (R145); entries
within the list; the ranges of R145 and of a list entry (R146). -/
structure SeqInv (s : State) : Prop where
  list : s.seq.list.length ≤ 64
  entries : ∀ e ∈ s.seq.list,
    e.duration ≤ 65535 ∧ e.trans ≠ .crossfade 0 ∧ e.trans ≠ .wipe 0 ∧ e.cue ≠ some 0xFF
  counting : ∀ n, s.seq.dwell = .counting n → 1 ≤ n ∧ n ≤ 65535
  targetRuns : ∀ t, s.seq.target = some t → s.seq.run.isRunning = true
  dwellRuns : s.seq.dwell ≠ .absent → s.seq.run.isRunning = true ∧ s.seq.target = none
  targetEntry : ∀ t, s.seq.target = some t → t.entry < s.seq.list.length ∧ t.wait ≤ Config.maxWait
  shownEntry : ∀ i, s.seq.shown = some i → i < s.seq.list.length
  placedEntry : ∀ x, s.seq.placed = some x → x.entry < s.seq.list.length
  drain : s.seq.drain ≤ 63 ∧ s.seq.config.drainCount ≤ 63

/-! ### The report unit -/

/-- The report unit's laws: at most 16 reports (R166), ATTN asserted exactly while an enabled report waits (R170), the read
position within the head report (R166, R169), and nothing queued while RESET_N is low (R174). -/
structure ReportInv (s : State) : Prop where
  bound : s.report.queue.length ≤ Config.maxReports
  attn : s.report.attn = s.report.queue.any (enabledIn s.report.mask)
  position : s.report.readPos ≤ ((s.report.queue.head?).map Report.len).getD 0
  low : s.resetLow = true → s.report.queue = []

end Sys2Proof.Machine
end

