-- ==== Sys2Proof/WellFormed.lean ====
section
/-! DEFINITION. Well-formed commands: what the ports can carry. A segment's body is at most 4000 bytes (R6, check 1). A
fragment's operand is its body less three bytes, a Palette's less six, a Slide Control's less one. A playhead belongs to
one of at most 24 buttons (R119). -/

namespace Sys2Proof

/-- A command that the part's ports can carry. -/
def Instr.wellFormed : Instr → Bool
  | .setOpen b | .objectDrop b | .pageSegment b | .buttons b | .animations b | .scroll b | .showSegment b
  | .slideList b | .key b | .flags b | .clock b | .output b | .statusRequest b | .attentionMask b | .restart b =>
    decide (b.length ≤ Config.maxBody)
  | .objectDataFirst _ r | .objectDataOnly _ r | .objectDataMiddle _ r | .objectDataLast _ r =>
    decide (r.length + 3 ≤ Config.maxBody)
  | .paletteHold _ _ _ e | .paletteNext _ _ _ e | .paletteAt _ _ _ e | .paletteDiscard _ _ _ e =>
    decide (e.length + 6 ≤ Config.maxBody)
  | .configure r | .arm r | .disarm r | .slideStart r | .slideStop r | .slidePause r | .slideResume r
  | .slideNext r | .slidePrev r => decide (r.length + 1 ≤ Config.maxBody)
  | .playheadStep _ i => decide (i < 24)
  | .segmentByte _ | .fragmentComplete | .engineFrameStart | .transitionEnd _ | .storeFrameStart | .paletteFrameStart
  | .mixerFrameStart | .line _ | .mixerFrameEnd | .storeFrameEnd | .navFrameEnd | .activationExpiry _
  | .sequencerFrameEnd | .dwellExpiry | .slideReady | .lateSlide | .timeTrigger | .readStrobe | .resetNAsserted
  | .resetNReleased => true

end Sys2Proof
end

