-- ==== Sys2Proof/Certificates/Slice0/Obligations.lean ====
section
/-! DEFINITION. The statements about the part. Each names the rules of the spec it formalises; a statement that rests on a
choice of the model says so and names the log entry. Wherever a statement says which report a command raises, the report
carries the engine's counter as its FC (R167); between PALETTE_FRAME_START and ENGINE_FRAME_START of one frame start this
is the model's choice (log entry 31). -/

open Sys2Proof Sys2Proof.Machine

/-! ### The queue of commands -/

/-- The model's choice (log entry 7): a step takes the command at the front of the queue and is `exec` of it on the
state with the rest of the queue; on an empty queue the part idles. -/
def Obligations.StepRunsFrontCommand : Prop :=
  (∀ (c : Instr) (s : State), step { s with pending := c :: s.pending } = exec c s) ∧
    ∀ s : State, s.pending = [] → step s = .next s

/-- Every command ends in a next state, in every state: the spec gives the part no condition that stops it. It is the
model's choice that commands wait in one queue whose rest a command leaves alone (log entries 7 and 24), and that a row
with nothing to act on does nothing (log entries 6, 10 and 19). -/
def Obligations.EveryCommandCompletes : Prop :=
  ∀ (c : Instr) (s : State), ∃ t, exec c s = .next t ∧ t.pending = s.pending

/-- R174: while RESET_N is low, bytes, segments, frame starts and frame ends change nothing, a line passes to the video
output unchanged, and a read strobe returns 0x00. -/
def Obligations.HeldPartIgnoresEvents : Prop :=
  ∀ s : State, s.resetLow = true →
    (∀ b, exec (.segmentByte b) s = .next s) ∧
    (∀ c g, segmentOf c = some g → exec c s = .next s) ∧
    exec .engineFrameStart s = .next s ∧ exec .storeFrameStart s = .next s ∧ exec .paletteFrameStart s = .next s ∧
    exec .mixerFrameStart s = .next s ∧ exec .storeFrameEnd s = .next s ∧ exec .navFrameEnd s = .next s ∧
    exec .sequencerFrameEnd s = .next s ∧ exec .mixerFrameEnd s = .next s ∧
    (∀ l, exec (.line l) s = .next { s with mixer := { s.mixer with videoOut := l } }) ∧
    exec .readStrobe s = .next { s with report := { s.report with port := 0 } }

/-! ### Reset -/

/-- The values that the spec gives for reset, block by block (R1, R11, R20, R23, R40, R55, R56, R67, R70, R72, R80, R81,
R90, R92, R93, R95, R116, R127, R131, R145, R166, R170, R175). What the spec gives no reset value for (log entry 4) is
not stated. -/
def Obligations.ResetState : Prop :=
  (let s := State.reset
   s.port = { rx := .hunt, ffCount := 0, queue := [], hold := false } ∧ s.decoder = .idle ∧
     (∀ k, s.store.slot k = .empty) ∧ s.store.free = List.finRange 2048 ∧
     (∀ (p : PaletteId) (ix : Byte), s.palette.entry p ix = { y := 16, cb := 128, cr := 128, a := 0 }) ∧
     s.palette.patch = .closed ∧
     s.engine.fc = 0 ∧ s.engine.pendingClock = none ∧ s.engine.setId = 0xFFFF ∧ s.engine.popupPage = none ∧
     (let blank : PageDef := { placements := [], defaultButton := none, hold := 0, buttons := [], animations := [] }
      ∀ p, s.engine.page p = { defined := false, cur := blank, waiting := none }) ∧
     (∀ c, s.engine.contexts.get c = .empty) ∧ s.engine.schedule = [] ∧ s.engine.staged = [] ∧
     s.engine.liveSet = [] ∧ s.engine.rasterW = 0 ∧
     s.mixer.out = { mode := .pass, fill := { y := 16, cb := 128, cr := 128 } } ∧ s.mixer.pendingOut = none ∧
     s.mixer.raster = .unknown ∧ s.mixer.width = 0 ∧ s.mixer.height = 0 ∧ s.mixer.frame = none ∧
     s.mixer.dropLines = 0 ∧ s.mixer.dropSpans = 0 ∧ s.mixer.overload = false) ∧
  (let s := State.reset
   s.nav.flags = 0 ∧ s.nav.resting = 0 ∧ s.nav.flagsChanged = false ∧ s.nav.redefined = false ∧ s.nav.keys = [] ∧
     (∀ c, s.nav.get c = { page := none, buttons := [], selected := none, activation := none, stack := [] }) ∧
     s.seq.list = [] ∧ s.seq.run = .idle ∧ s.seq.shown = none ∧ s.seq.target = none ∧ s.seq.placed = none ∧
     s.seq.dwell = .absent ∧ s.seq.drain = 0 ∧ s.seq.flagsCopy = 0 ∧ s.seq.slidePage = none ∧
     s.seq.config.startKind = .command ∧ s.seq.config.stopKind = .command ∧ s.seq.config.drainCount = 0 ∧
     s.seq.config.endMode = .once ∧
     s.report.queue.map Report.body = [.restartDone .pin 0x37] ∧ s.report.readPos = 0 ∧ s.report.lost = false ∧
     s.report.mask = 0x37 ∧ s.report.attn = true ∧ s.resetLow = false)

/-- Right after reset every block keeps its laws. -/
def Obligations.ResetKeepsTheLaws : Prop :=
  PortInv State.reset ∧ StoreInv State.reset ∧ State.reset.mem.wf ∧ ColourInv State.reset ∧ EngineInv State.reset ∧
    NavInv State.reset ∧ SeqInv State.reset ∧ ReportInv State.reset

/-! ### The segment port -/

/-- R2: what each byte does in HUNT; a marker that finds 32 segments waiting raises OVERRUN (R10), and HOLD is tested
when a segment opens (R11). The report's FC is the engine's counter (R167, log entry 31). -/
def Obligations.ByteInHunt : Prop :=
  ∀ (b : Byte) (s : State), s.resetLow = false → s.port.rx = .hunt →
    exec (.segmentByte b) s = .next
      (if b = 0xFF then { s with port := { s.port with ffCount := if s.port.ffCount = 0 then 1 else 2 } }
       else if b = 0x5A ∧ s.port.ffCount = 2 then
         if 32 ≤ s.port.queue.length then
           ({ s with port := { s.port with ffCount := 0 } }).raise (.overrun 0xFF 0 .segments)
         else
           { s with port := { s.port with
               rx := .header [], ffCount := 0,
               hold := holdLevel (s.port.queue.length + 1) (s.port.queue.map fun g => g.body.length).sum s.port.hold } }
       else { s with port := { s.port with ffCount := 0 } })

/-- R3, R4, R5: the byte after two FF bytes in HEADER, BODY or SKIP. A stuffing byte only clears the FF count. A marker
discards a segment in HEADER or BODY with TRUNCATED, ends a skip without a report, and opens a new segment; where 32
complete segments wait it raises OVERRUN and leaves the receiver in HUNT (R10). Any other byte is a framing violation:
FRAMING, and the byte is examined as the first of the hunt. A report's FC is the engine's counter (R167, log entry
31). -/
def Obligations.ByteAfterTwoFF : Prop :=
  ∀ (b : Byte) (s : State), s.resetLow = false → s.port.rx ≠ .hunt → s.port.ffCount = 2 →
    let bytes := (s.port.queue.map fun g => g.body.length).sum
    let gone := match s.port.rx with
      | .skip _ _ => s.port.hold
      | _ => holdLevel s.port.queue.length bytes s.port.hold
    let opening (r : ReportUnit) : State :=
      if 32 ≤ s.port.queue.length then
        { s with
          port := { s.port with rx := .hunt, ffCount := 0, hold := gone }
          report := r.enqueue s.engine.fc (.overrun 0xFF 0 .segments) }
      else
        { s with
          port := { s.port with
            rx := .header [], ffCount := 0, hold := holdLevel (s.port.queue.length + 1) bytes gone }
          report := r }
    let kind := s.port.rx.kindByte
    let got := s.port.rx.received
    exec (.segmentByte b) s = .next
      (if b = 0x00 then { s with port := { s.port with ffCount := 0 } }
       else if b = 0x5A then
         match s.port.rx with
         | .skip _ _ => opening s.report
         | _ => opening (s.report.enqueue s.engine.fc (.truncated kind got))
       else
         { s with
           port := { s.port with rx := .hunt, ffCount := if b = 0xFF then 1 else 0, hold := gone }
           report := s.report.enqueue s.engine.fc (.framing kind got) })

/-- R6: the fourth header byte and the header checks, in their order. `gone` is HOLD once the segment's place is given
up. R12: the known kind codes are 0x10 to 0x19 and 0x20 to 0x27, and those from 0x20 on are express and player-only. A
header of length 0 that passes is a complete segment at once, and the router takes over (R8). A report's FC is the
engine's counter (R167, log entry 31). -/
def Obligations.HeaderChecks : Prop :=
  ∀ (kind source l1 l0 : Byte) (s : State), s.resetLow = false → s.port.rx = .header [kind, source, l1] →
    s.port.ffCount ≠ 2 →
    let n := (l1 ++ l0).toNat
    let h : Header := { kind := kind, source := source, length := n }
    let count : Fin 3 := if l0 = 0xFF then (if s.port.ffCount = 0 then 1 else 2) else 0
    let gone := holdLevel s.port.queue.length (s.port.queue.map fun g => g.body.length).sum s.port.hold
    let skipped : Port :=
      if n = 0 then { s.port with rx := .hunt, ffCount := 0, hold := gone }
      else { s.port with rx := .skip h 0, ffCount := count, hold := gone }
    (∀ b : Byte, (kindOf b).isSome = true ↔ 0x10 ≤ b.toNat ∧ b.toNat ≤ 0x19 ∨ 0x20 ≤ b.toNat ∧ b.toNat ≤ 0x27) ∧
    (∀ k : Kind, kindOf k.code = some k ∧ (k.express = true ↔ 0x20 ≤ k.code.toNat)) ∧
    exec (.segmentByte l0) s =
      if 4000 < n then .next
        { s with port := { s.port with rx := .hunt, ffCount := 0, hold := gone },
                 report := s.report.enqueue s.engine.fc (.oversize kind n) }
      else match kindOf kind with
        | none => .next { s with port := skipped, report := s.report.enqueue s.engine.fc (.unknownKind kind n) }
        | some k =>
          if source ≠ 0 ∧ source ≠ 1 then
            .next { s with port := skipped, report := s.report.enqueue s.engine.fc (.malformed kind n) }
          else if k.express = true ∧ source = 0 then
            .next { s with port := skipped, report := s.report.enqueue s.engine.fc (.source kind n) }
          else if n = 0 then .next (routeSegment ⟨k, []⟩ { s with port := { s.port with rx := .hunt, ffCount := 0 } })
          else .next { s with port := { s.port with rx := .body h [], ffCount := count } }

/-- R7, R8, R10: a segment byte in BODY is refused with OVERRUN where the byte total is 16,384, the completing byte too,
and then examined as the first byte of the hunt. Otherwise it is stored; where it is the last of a segment of an
accepted kind, the receiver enters HUNT and the router takes over. A segment byte in SKIP is counted off and not stored.
A report's FC is the engine's counter (R167, log entry 31). -/
def Obligations.BodyAndSkipBytes : Prop :=
  ∀ (b : Byte) (h : Header) (s : State), s.resetLow = false → s.port.ffCount ≠ 2 →
    let count : Fin 3 := if b = 0xFF then (if s.port.ffCount = 0 then 1 else 2) else 0
    let waiting := (s.port.queue.map fun g => g.body.length).sum
    (∀ got, s.port.rx = .body h got →
      let hold := holdLevel (s.port.queue.length + 1) (waiting + got.length + 1) s.port.hold
      (got.length + 1 ≤ h.length → 16384 ≤ waiting + got.length →
        exec (.segmentByte b) s = .next
          { s with
            port := { s.port with
              rx := .hunt, ffCount := if b = 0xFF then 1 else 0,
              hold := holdLevel s.port.queue.length waiting s.port.hold }
            report := s.report.enqueue s.engine.fc (.overrun h.kind (4 + got.length) .bytes) }) ∧
      (got.length + 1 < h.length → waiting + got.length < 16384 →
        exec (.segmentByte b) s = .next
          { s with port := { s.port with rx := .body h (got ++ [b]), ffCount := count, hold := hold } }) ∧
      (got.length + 1 = h.length → waiting + got.length < 16384 → ∀ k, kindOf h.kind = some k →
        exec (.segmentByte b) s = .next
          (routeSegment ⟨k, got ++ [b]⟩ { s with port := { s.port with rx := .hunt, ffCount := 0, hold := hold } }))) ∧
    ∀ n, s.port.rx = .skip h n →
      exec (.segmentByte b) s = .next
        (if n + 1 < h.length then { s with port := { s.port with rx := .skip h (n + 1), ffCount := count } }
         else { s with port := { s.port with rx := .hunt, ffCount := 0 } })

/-- A segment command is what its bytes do (log entry 3): the marker and the stuffed header and body of a segment,
strobed one after another into a receiver in HUNT with whatever FF count, leave the state that the command leaves (1.1
to 1.4), be the segment taken, queued, or refused with OVERRUN or OVERSIZE. The source is PLAYER, or DISC for a content
kind; the length fits its two header bytes. The premises on the port say that the byte total is within its limit (R10)
and that HOLD stands as its last test left it (R11). The kind code and the body of each command are those of R12 and
11.3: an Object Data head with its position (11.4), the control byte of a Palette, the operation byte of a Slide
Control. -/
def Obligations.SegmentOnTheWire : Prop :=
  (∀ (c : Instr) (g : Segment) (source : Byte) (s : State), segmentOf c = some g →
    source = 0x01 ∨ (source = 0x00 ∧ g.kind.express = false) → g.body.length < 65536 →
    s.resetLow = false → s.port.rx = .hunt → s.port.byteTotal ≤ 16384 →
    holdLevel s.port.segTotal s.port.byteTotal s.port.hold = s.port.hold →
    strobe (wireBytes source g) s = exec c s) ∧
  let wire (c : Instr) : Option (Nat × List Byte) := (segmentOf c).map fun g => (g.kind.code.toNat, g.body)
  let one (n : Nat) : Byte := BitVec.ofNat 8 n
  (∀ (b : List Byte) (c : Instr) (kind : Nat),
    (c, kind) ∈ [(Instr.setOpen b, 0x10), (.objectDrop b, 0x12), (.pageSegment b, 0x14), (.buttons b, 0x15),
      (.animations b, 0x16), (.scroll b, 0x17), (.showSegment b, 0x18), (.slideList b, 0x19), (.key b, 0x20),
      (.flags b, 0x21), (.clock b, 0x22), (.output b, 0x23), (.statusRequest b, 0x25), (.attentionMask b, 0x26),
      (.restart b, 0x27)] → wire c = some (kind, b)) ∧
  (∀ (id : Half) (r : List Byte) (c : Instr) (position : Byte),
    (c, position) ∈ [(Instr.objectDataFirst id r, 0), (.objectDataMiddle id r, 1), (.objectDataLast id r, 2),
      (.objectDataOnly id r, 3)] → wire c = some (0x11, one (id.toNat / 256) :: one id.toNat :: position :: r)) ∧
  (∀ (p : BitVec 4) (n : BitVec 9) (time : FrameCount) (e : List Byte) (c : Instr) (mode : Nat),
    (c, mode) ∈ [(Instr.paletteHold p n time e, 0), (.paletteNext p n time e, 1), (.paletteAt p n time e, 2),
      (.paletteDiscard p n time e, 3)] →
    wire c = some (0x13, [one (128 * (n.toNat / 256) + 16 * mode + p.toNat), one n.toNat, one (time.toNat / 2 ^ 24),
      one (time.toNat / 2 ^ 16), one (time.toNat / 2 ^ 8), one time.toNat] ++ e)) ∧
  (∀ (r : List Byte) (c : Instr) (operation : Byte),
    (c, operation) ∈ [(Instr.configure r, 0), (.arm r, 1), (.disarm r, 2), (.slideStart r, 3), (.slideStop r, 4),
      (.slidePause r, 5), (.slideResume r, 6), (.slideNext r, 7), (.slidePrev r, 8)] →
    wire c = some (0x24, operation :: r))

/-- R14: while the decoder is busy a content segment of any kind joins the queue and nothing else happens. -/
def Obligations.ContentWaitsBehindBusyDecoder : Prop :=
  ∀ (c : Instr) (g : Segment) (s : State), segmentOf c = some g → g.kind.express = false → Accepts s g.body.length →
    s.decoder.busy = true → exec c s = .next (joined s g)

/-- R15 with the checks of every kind (`BodyFits`, which says them in the statement's own terms): the lengths and
counts; Set Open's popup page (R70), the ids of Object Data and Object Drop with the head's ranges (R39, R32), a
Palette's id, mode and count (R57), the fields of a Page and its placements (R73, R74), of Buttons (R121: an undefined
page, a placement index beyond the list the segment will join or named twice, numbers, modes, visuals, actions,
transitions) and Animations (R122), a Scroll's page and index (R78), a Show's fields (R82), a Slide List's and its
configuration's (R147, R148), Key (R131), Output's mode (R99), a Slide Control's operation (R149), bit 7 of an Attention
Mask (R171). A body that fails a check raises MALFORMED with its kind and length and has no other effect, as a command
and as a segment strobed in, which may also be one that no command spells (a reserved palette mode, fragment position or
operation). Spelled out: a wrong length of the express kinds, of each Slide Control and of a Palette, and an Object Data
head beyond each range; decoder, load and store stand. That an ANIMATION visual's index above 7 is no ground is the
model's reading of R119 and R121 (log entry 25). A report's FC is the engine's counter (R167, log entry 31). -/
def Obligations.MalformedBodies : Prop :=
  (∀ (c : Instr) (g : Segment) (s : State), segmentOf c = some g →
    (if g.kind.express = true then Accepts s g.body.length else TakesContent s g.body.length) → ¬BodyFits s g →
    exec c s = .next ((visited s g.body.length).raise (.malformed g.kind.code g.body.length))) ∧
  (∀ (g : Segment) (s : State),
    (if g.kind.express = true then Accepts s g.body.length else TakesContent s g.body.length) → ¬BodyFits s g →
    s.port.rx = .hunt → holdLevel s.port.segTotal s.port.byteTotal s.port.hold = s.port.hold →
    strobe (wireBytes 0x01 g) s =
      .next ((visited s g.body.length).raise (.malformed g.kind.code g.body.length))) ∧
  (∀ (c : Instr) (b : List Byte) (n : Nat) (s : State),
    (c, n) ∈ [(Instr.key b, 3), (.flags b, 4), (.clock b, 4), (.output b, 4), (.statusRequest b, 0),
      (.attentionMask b, 1), (.restart b, 0)] →
    Accepts s b.length → b.length ≠ n →
    ∀ g, segmentOf c = some g →
      exec c s = .next ((visited s b.length).raise (.malformed g.kind.code b.length))) ∧
  (∀ (c : Instr) (r : List Byte) (n : Nat) (s : State),
    (c, n) ∈ [(Instr.configure r, 16), (.arm r, 0), (.disarm r, 0), (.slideStart r, 0), (.slideStop r, 0),
      (.slidePause r, 0), (.slideResume r, 0), (.slideNext r, 0), (.slidePrev r, 0)] →
    Accepts s (r.length + 1) → r.length ≠ n →
      exec c s = .next ((visited s (r.length + 1)).raise (.malformed 0x24 (r.length + 1)))) ∧
  (∀ (mode : ApplyMode) (q : BitVec 4) (n : BitVec 9) (time : FrameCount) (e : List Byte) (s : State),
    e.length ≠ 5 * n.toNat ∨ 256 < n.toNat ∨ 8 ≤ q.toNat → TakesContent s (6 + e.length) →
      exec (paletteCommand mode q n time e) s =
        .next ((visited s (6 + e.length)).raise (.malformed 0x13 (6 + e.length)))) ∧
  (∀ (id : Half) (code rest : List Byte) (v w1 w0 h1 h0 d : Byte) (s : State),
    (512 ≤ id.toNat → TakesContent s (3 + code.length) →
      ∀ c ∈ [Instr.objectDataMiddle id code, .objectDataLast id code, .objectDataFirst id code, .objectDataOnly id code],
        exec c s = .next ((visited s (3 + code.length)).raise (.malformed 0x11 (3 + code.length)))) ∧
    (code.length < 6 → TakesContent s (3 + code.length) →
      ∀ c ∈ [Instr.objectDataFirst id code, .objectDataOnly id code],
        exec c s = .next ((visited s (3 + code.length)).raise (.malformed 0x11 (3 + code.length)))) ∧
    ((w1 ++ w0 : Half).toNat = 0 ∨ 1920 < (w1 ++ w0 : Half).toNat ∨ (h1 ++ h0 : Half).toNat = 0 ∨
        1080 < (h1 ++ h0 : Half).toNat ∨ (d.toNat ≠ 2 ∧ d.toNat ≠ 4 ∧ d.toNat ≠ 8) →
      TakesContent s (9 + rest.length) →
      ∀ c ∈ [Instr.objectDataFirst id (v :: w1 :: w0 :: h1 :: h0 :: d :: rest),
          .objectDataOnly id (v :: w1 :: w0 :: h1 :: h0 :: d :: rest)],
        exec c s = .next ((visited s (9 + rest.length)).raise (.malformed 0x11 (9 + rest.length)))))

/-- The segment port keeps its limits, HOLD its tested level, and content waits only behind a busy decoder, at every
step (R9, R10, R11, R14, R18). -/
def Obligations.PortLawsKept : Prop := ∀ s t : State, PortInv s → step s = .next t → PortInv t

/-! ### Objects -/

/-- R28: a FIRST or ONLY for version v of object k, taken while slot k is READY at version v, is skipped without a
report; slot, versions and free list stand, and the decoder discards k's fragments. -/
def Obligations.RepeatedLoadIsSkipped : Prop :=
  ∀ (k : ObjId) (only : Bool) (v : Byte) (w h : Nat) (d : Depth) (code : List Byte) (c : Version) (s : State),
    1 ≤ w → w ≤ 1920 → 1 ≤ h → h ≤ 1080 → TakesContent s (9 + code.length) → (∀ l, s.decoder ≠ .await l) →
    s.store.slot k = .ready c → c.number = v →
    exec ((if only then Instr.objectDataOnly else Instr.objectDataFirst) (BitVec.ofNat 16 k.val)
        (openingRest v w h d code)) s =
      .next { visited s (9 + code.length) with decoder := .skipping k }

/-- R27: a load that the free list has too few granules for raises NO-SPACE with the id, the granules needed and the
free count; slot, versions and free list stand, and the decoder discards k's fragments. The report's FC is the engine's
counter (R167, log entry 31). -/
def Obligations.LoadWithoutSpaceIsRefused : Prop :=
  ∀ (k : ObjId) (only : Bool) (v : Byte) (w h : Nat) (d : Depth) (code : List Byte) (s : State),
    1 ≤ w → w ≤ 1920 → 1 ≤ h → h ≤ 1080 → TakesContent s (9 + code.length) → (∀ l, s.decoder ≠ .await l) →
    (∀ c, s.store.slot k = .ready c → c.number ≠ v) → s.store.free.length < granulesNeeded w h d →
    exec ((if only then Instr.objectDataOnly else Instr.objectDataFirst) (BitVec.ofNat 16 k.val)
        (openingRest v w h d code)) s =
      .next
        { visited s (9 + code.length) with
          decoder := .skipping k
          report := s.report.enqueue s.engine.fc (.noSpace k (granulesNeeded w h d) s.store.free.length) }

/-- R25, R26: a load with space takes g granules from the head of the free list in order as its incoming chain, the slot
moves by the state it was in, a replaced incoming chain goes to the tail, and the decoder decodes the fragment, which
stays in the queue. -/
def Obligations.LoadIsReserved : Prop :=
  ∀ (k : ObjId) (only : Bool) (v : Byte) (w h : Nat) (d : Depth) (code : List Byte) (s : State),
    1 ≤ w → w ≤ 1920 → 1 ≤ h → h ≤ 1080 → TakesContent s (9 + code.length) → (∀ l, s.decoder ≠ .await l) →
    (∀ c, s.store.slot k = .ready c → c.number ≠ v) → granulesNeeded w h d ≤ s.store.free.length →
    (s.store.slot k).building = none →
    let g := granulesNeeded w h d
    let inc : Version :=
      { number := v, width := w, height := h, depth := d, fault := false, chain := s.store.free.take g }
    let moved : Slot × List Granule := match s.store.slot k with
      | .empty => (.loading inc, [])
      | .ready c => (.updating c inc, [])
      | .dropping c => (.updating c inc, [])
      | .pending i => (.loading inc, i.chain)
      | .swapping c i => (.updating c inc, i.chain)
      | .loading i => (.loading inc, i.chain)
      | .updating c i => (.updating c inc, i.chain)
    let body := fragmentBody (if only then .only else .first) (BitVec.ofNat 16 k.val) (openingRest v w h d code)
    exec ((if only then Instr.objectDataOnly else Instr.objectDataFirst) (BitVec.ofNat 16 k.val)
        (openingRest v w h d code)) s =
      .next
        { joined s ⟨.objectData, body⟩ with
          decoder := .decoding
            { id := k, version := v, width := w, height := h, depth := d, row := 0, col := 0, code := none, ended := false }
            (if only then .only else .first) code
          store :=
            { slots := s.store.slots.set k.val moved.1 k.isLt, free := s.store.free.drop g ++ moved.2 } }

/-- R41, R30: a FIRST or ONLY that meets a load in AWAIT first abandons it, OTHER-OBJECT or SUPERSEDED: the incoming
chain goes to the tail of the free list, LOADING becomes EMPTY and UPDATING becomes READY, and ABANDONED is raised. It
then acts as on an idle decoder. A report's FC is the engine's counter (R167, log entry 31). -/
def Obligations.OpeningAbandonsHeldLoad : Prop :=
  ∀ (k : ObjId) (only : Bool) (v : Byte) (w h : Nat) (d : Depth) (code : List Byte) (l : Load) (i : Version) (s : State),
    1 ≤ w → w ≤ 1920 → 1 ≤ h → h ≤ 1080 → TakesContent s (9 + code.length) → s.decoder = .await l →
    (s.store.slot l.id).building = some i →
    let slot : Slot := match s.store.slot l.id with
      | .updating c _ => .ready c
      | _ => .empty
    let c := (if only then Instr.objectDataOnly else Instr.objectDataFirst) (BitVec.ofNat 16 k.val)
      (openingRest v w h d code)
    exec c s = exec c
      { s with
        decoder := .idle
        store := { slots := s.store.slots.set l.id.val slot l.id.isLt, free := s.store.free ++ i.chain }
        report := s.report.enqueue s.engine.fc
          (.abandoned l.id l.version (if l.id = k then .superseded else .otherObject)) }

/-- R42: a MIDDLE or LAST for object k. In AWAIT for k it is decoded into the load in progress; in SKIPPING(k) it is
discarded silently; in every other state of a free decoder it is discarded with STRAY-FRAGMENT. The report's FC is the
engine's counter (R167, log entry 31). -/
def Obligations.FollowingFragment : Prop :=
  ∀ (k : ObjId) (last : Bool) (code : List Byte) (s : State), TakesContent s (3 + code.length) →
    let pos : Position := if last then .last else .middle
    let id := BitVec.ofNat 16 k.val
    let stray := (visited s (3 + code.length)).raise (.strayFragment k pos)
    exec ((if last then Instr.objectDataLast else Instr.objectDataMiddle) id code) s = .next
      (match s.decoder with
       | .await l =>
         if l.id = k then
           { joined s ⟨.objectData, fragmentBody pos id code⟩ with decoder := .decoding l pos code }
         else stray
       | .skipping j => if j = k then visited s (3 + code.length) else stray
       | _ => stray)

/-- R14, R43, R29, R50, R51: FRAGMENT_COMPLETE. The fragment leaves the queue. A FIRST or MIDDLE leaves the load in
AWAIT; a LAST or ONLY closes it, completes the version (LOADING to PENDING, UPDATING to SWAPPING) and raises READY; an
invalid code byte raises DAMAGED and ABANDONED, releases the chain and leaves SKIPPING. The written bytes and the load
record are those of `Canvas.consumeAll` and `Canvas.close`, of which CodesWritePixels gives the laws. R14: the content
that waited behind it is then taken in arrival order, each segment by its owner, until a fragment makes the decoder
busy: the state is the one that the waiting segments leave, strobed afresh one after another into a part whose port is
empty (there each is taken as it becomes complete, and waits once the decoder is busy), with the receiver as it was.
R11: HOLD is tested as each segment leaves the queue. A report's FC is the engine's counter (R167, log entry 31). -/
def Obligations.FragmentCompletes : Prop :=
  ∀ (l : Load) (pos : Position) (code : List Byte) (g : Segment) (rest : List Segment) (i : Version) (s : State),
    s.resetLow = false → s.decoder = .decoding l pos code → s.port.queue = g :: rest →
    (s.store.slot l.id).building = some i →
    let p := Port.testHold { s.port with queue := rest }
    let inc (f : Bool) : Version := { i with fault := f }
    let built (f : Bool) (whole : Bool) : Slot := match s.store.slot l.id with
      | .updating c _ => if whole then .swapping c (inc f) else .updating c (inc f)
      | _ => if whole then .pending (inc f) else .loading (inc f)
    let undone : Slot := match s.store.slot l.id with
      | .updating c _ => .ready c
      | _ => .empty
    let done : State :=
      match Canvas.consumeAll code { load := l, chain := i.chain, mem := s.mem, fault := i.fault } with
      | .damaged c =>
        { s with
          port := p, mem := c.mem, decoder := .skipping l.id
          store := { slots := s.store.slots.set l.id.val undone l.id.isLt, free := s.store.free ++ i.chain }
          report := (s.report.enqueue s.engine.fc (.damaged l.id c.load.row)).enqueue s.engine.fc
            (.abandoned l.id l.version .damaged) }
      | .all c =>
        match pos with
        | .first | .middle =>
          { s with
            port := p, mem := c.mem, decoder := .await c.load
            store := { s.store with slots := s.store.slots.set l.id.val (built c.fault false) l.id.isLt } }
        | .last | .only =>
          { s with
            port := p, mem := c.close.mem, decoder := .idle
            store := { s.store with slots := s.store.slots.set l.id.val (built c.close.fault true) l.id.isLt }
            report := s.report.enqueue s.engine.fc (.ready l.id l.version c.close.fault) }
    (rest = [] → exec .fragmentComplete s = .next done) ∧
    ((∀ x ∈ rest, x.kind.express = false ∧ x.body.length ≤ 4000) → rest.length ≤ 31 →
      (rest.map fun x => x.body.length).sum ≤ 16384 →
      ∃ t u, exec .fragmentComplete s = .next t ∧
        strobe (rest.flatMap (wireBytes 0x01)) { done with port := Port.reset false } = .next u ∧
        t = { u with port := { s.port with queue := u.port.queue, hold := t.port.hold } } ∧
        t.port.hold = (List.range (rest.length - u.port.queue.length + 1)).foldl
          (fun hold m =>
            let left : Port := { s.port with queue := rest.drop m }
            holdLevel left.segTotal left.byteTotal hold) s.port.hold)

/-- R22, R45, R46: a pixel written at column u of row v reads back as its index reduced to the depth's low bits, and
every other pixel of the version keeps its index. R44 to R50, the codes, where one is expected at (row v, column u)
inside the object: the rows are read as pixel slots, those from the width to the stride being padding. A literal run, a
short and a long repeat write their indexes, reduced, from u up to the row's end, and close a full row with padding 0;
pixels beyond it, and reduced indexes, set the fault flag. A run whose operands have not all come leaves its code
pending: a literal run has written what came, up to the width, and closes no row; the others nothing. Copy rows first
completes a partly written row, with a fault, and then copies the slots of the row above (0 at row 0), cut at the height
with a fault. End of row writes 0 to the rest of the row and its padding. End of object writes 0 to all that is left and
sets the end flag. A byte from A3 on damages. After the last row any byte sets the end flag, and the fault flag unless
it is A2, which for a byte from A3 on is the model's reading (log entry 13); after the end a byte only sets the fault
flag. Bytes are consumed one after another, so a code may begin in one fragment and go on in the next. R51: the close
drops a pending code and fills what is unwritten, on a row that a literal run has just filled its padding (R45), each
with a fault. Chain and the rest of the load record stand. -/
def Obligations.CodesWritePixels : Prop :=
  (∀ (c : Canvas) (u v x y : Nat) (ix : Byte), u < c.load.width → v < c.load.height → x < c.load.width →
    y < c.load.height → c.chain.Nodup → c.chain.length = granulesNeeded c.load.width c.load.height c.load.depth →
    let read (m : Memory) (x y : Nat) : Byte :=
      indexIn c.load.depth x (chainRead m c.chain (pixelOffset c.load.width c.load.depth x y))
    read (c.poke u v ix).mem x y = if x = u ∧ y = v then ix &&& c.load.depth.mask else read c.mem x y) ∧
  (∀ (l1 l2 : List Byte) (c : Canvas), Canvas.consumeAll (l1 ++ l2) c = match Canvas.consumeAll l1 c with
    | .all c1 => Canvas.consumeAll l2 c1
    | .damaged c1 => .damaged c1) ∧
  ∀ c : Canvas, c.chain.Nodup → c.chain.length = granulesNeeded c.load.width c.load.height c.load.depth →
    let w := c.load.width
    let h := c.load.height
    let d := c.load.depth
    let u := c.load.col
    let v := c.load.row
    let slot (m : Memory) (x y : Nat) : Byte := indexIn d x (chainRead m c.chain (pixelOffset w d x y))
    let leaves (c' : Canvas) (row col : Nat) (code : Option PendingCode) (ended fault : Bool)
        (pixel : Nat → Nat → Byte) : Prop :=
      c' = { c' with load := { c.load with row := row, col := col, code := code, ended := ended }, chain := c.chain,
                     fault := fault } ∧
      ∀ x y, x < strideOf w d * 8 / d.bits → y < h → slot c'.mem x y = pixel x y
    let old := slot c.mem
    let filled (x y : Nat) : Byte := if (y = v ∧ (u = 0 ∨ u ≤ x)) ∨ v < y then 0 else old x y
    (c.load.code = none → c.load.ended = false → v < h → u < w →
      (∀ bytes ixs : List Byte, ixs ≠ [] →
        ((∃ b, b.toNat < 0x40 ∧ ixs.length = b.toNat + 1 ∧ bytes = b :: ixs) ∨
          (∃ b ix, 0x40 ≤ b.toNat ∧ b.toNat < 0x80 ∧ ixs = List.replicate (b.toNat - 0x40 + 2) ix ∧ bytes = [b, ix]) ∨
          ∃ b n ix, 0x80 ≤ b.toNat ∧ b.toNat < 0xA0 ∧
            ixs = List.replicate ((b.toNat - 0x80) * 256 + n.toNat + 1) ix ∧ bytes = [b, n, ix]) →
        let full : Bool := decide (w ≤ u + ixs.length)
        ∃ c', Canvas.consumeAll bytes c = .all c' ∧
          leaves c' (if full then v + 1 else v) (if full then 0 else u + ixs.length) none false
            (c.fault || decide (w < u + ixs.length) || ixs.any fun ix => ix &&& d.mask != ix)
            fun x y =>
              if y = v ∧ u ≤ x ∧ x < w ∧ x < u + ixs.length then (ixs[x - u]?.getD 0) &&& d.mask
              else if y = v ∧ w ≤ x ∧ full then 0
              else old x y) ∧
      (∀ (b : Byte) (ixs : List Byte), b.toNat < 0x40 → ixs.length < b.toNat + 1 →
        ∃ c' p, Canvas.consumeAll (b :: ixs) c = .all c' ∧
          leaves c' v (min w (u + ixs.length)) (some p) false
            (c.fault || decide (w < u + ixs.length) || ixs.any fun ix => ix &&& d.mask != ix)
            fun x y =>
              if y = v ∧ u ≤ x ∧ x < w ∧ x < u + ixs.length then (ixs[x - u]?.getD 0) &&& d.mask else old x y) ∧
      (∀ b n : Byte, ∀ bytes ∈ [[b], [b, n]],
        (bytes = [b] ∧ (0x40 ≤ b.toNat ∧ b.toNat < 0xA0 ∨ b = 0xA1)) ∨
          (bytes = [b, n] ∧ 0x80 ≤ b.toNat ∧ b.toNat < 0xA0) →
        ∃ p, Canvas.consumeAll bytes c = .all { c with load := { c.load with code := some p } }) ∧
      (∃ c', Canvas.consumeAll [0xA0] c = .all c' ∧
        leaves c' (v + 1) 0 none false c.fault fun x y => if y = v ∧ u ≤ x then 0 else old x y) ∧
      (∀ n : Byte,
        let top := if u = 0 then v else v + 1
        let made := min (n.toNat + 1) (h - top)
        let above (x y : Nat) : Byte := if 0 < u ∧ y = v ∧ u ≤ x then 0 else old x y
        ∃ c', Canvas.consumeAll [0xA1, n] c = .all c' ∧
          leaves c' (top + made) 0 none false (c.fault || decide (0 < u) || decide (made < n.toNat + 1))
            fun x y => if top ≤ y ∧ y < top + made then (if top = 0 then 0 else above x (top - 1)) else above x y) ∧
      (∃ c', Canvas.consumeAll [0xA2] c = .all c' ∧ leaves c' h 0 none true c.fault filled) ∧
      ∀ (b : Byte) (l : List Byte), 0xA3 ≤ b.toNat → Canvas.consumeAll (b :: l) c = .damaged c) ∧
    (∀ b : Byte, c.load.code = none → c.load.ended = false → h ≤ v →
      Canvas.consumeAll [b] c = .all
        { c with load := { c.load with ended := true }, fault := c.fault || b != 0xA2 }) ∧
    (∀ b : Byte, c.load.ended = true → Canvas.consumeAll [b] c = .all { c with fault := true }) ∧
    (v < h → u ≤ w →
      leaves c.close (if c.load.ended then v else h) (if c.load.ended then u else 0) none c.load.ended
        (c.fault || c.load.code.isSome || !c.load.ended) (if c.load.ended then old else filled)) ∧
    (h ≤ v → c.close = { c with load := { c.load with code := none }, fault := c.fault || c.load.code.isSome })

/-- R32, R52: an Object Drop of k, by the state of slot k. A load in progress is abandoned with DROPPED and the decoder
discards the rest of its fragments. A report's FC is the engine's counter (R167, log entry 31). -/
def Obligations.ObjectIsDropped : Prop :=
  ∀ (k : ObjId) (s : State), TakesContent s 2 →
    let v := visited s 2
    let put (x : Slot) (chain : List Granule) : Store :=
      { slots := s.store.slots.set k.val x k.isLt, free := s.store.free ++ chain }
    let ended : Decoder := match s.decoder with
      | .await l => if l.id = k then .skipping k else .await l
      | d => d
    let told (i : Version) : ReportUnit := s.report.enqueue s.engine.fc (.abandoned k i.number .dropped)
    exec (.objectDrop (bytes16 k.val)) s = .next
      (match s.store.slot k with
       | .empty => { v with decoder := ended }
       | .loading i => { v with store := put .empty i.chain, decoder := ended, report := told i }
       | .pending i => { v with store := put .empty i.chain, decoder := ended }
       | .ready c => { v with store := put (.dropping c) [], decoder := ended }
       | .updating c i => { v with store := put (.dropping c) i.chain, decoder := ended, report := told i }
       | .swapping c i => { v with store := put (.dropping c) i.chain, decoder := ended }
       | .dropping _ => { v with decoder := ended })

/-- R31: the store's frame start makes every complete incoming version current; the old chains of SWAPPING slots go to
the tail of the free list in ascending order of id; nothing else changes. R33: the store's frame end releases every
DROPPING slot outside the live reference set, in ascending order of id; nothing else of the spec's state changes (the
model's own `skew` is set level, log entry 5). -/
def Obligations.StoreFrames : Prop :=
  (∀ s : State, s.resetLow = false → ∃ t, exec .storeFrameStart s = .next t ∧ t = { s with store := t.store } ∧
     (∀ k, t.store.slot k = match s.store.slot k with
       | .pending i => .ready i
       | .swapping _ i => .ready i
       | x => x) ∧
     t.store.free = s.store.free ++ (List.finRange 512).flatMap fun k => match s.store.slot k with
       | .swapping c _ => c.chain
       | _ => []) ∧
  (∀ s : State, s.resetLow = false → ∃ t, exec .storeFrameEnd s = .next t ∧
     t = { s with store := t.store, skew := .level } ∧
     (∀ k, t.store.slot k = match s.store.slot k with
       | .dropping c => if k ∈ s.engine.liveSet then .dropping c else .empty
       | x => x) ∧
     t.store.free = s.store.free ++ (List.finRange 512).flatMap fun k => match s.store.slot k with
       | .dropping c => if k ∈ s.engine.liveSet then [] else c.chain
       | _ => [])

/-- R19, R20, R22 and 2.3: every step keeps the law of the free list, the size of every chain, and the one load in
progress. -/
def Obligations.StoreLawsKept : Prop := ∀ s t : State, StoreInv s → step s = .next t → StoreInv t

/-- Every step keeps object memory below address 8,388,608 (R19) and in its canonical form, addresses rising and no
listed byte equal to what an unlisted one reads as. The form is the model's choice (log entries 26 and 2). -/
def Obligations.MemoryFormKept : Prop := ∀ s t : State, s.mem.wf → step s = .next t → t.mem.wf

/-- Only the decoder writes object memory, and only as it consumes a fragment (R19, R38): no other command changes a
byte, resets included, and FRAGMENT_COMPLETE changes no byte outside the chain of the version being built. That a
fragment is consumed at one moment, so that a reset or a drop in mid fragment finds none of its bytes written, is the
model's choice (log entry 18). -/
def Obligations.OnlyTheDecoderWritesMemory : Prop :=
  ∀ (c : Instr) (s t : State), exec c s = .next t →
    (c ≠ .fragmentComplete → t.mem = s.mem) ∧
    (c = .fragmentComplete → ∀ a,
      (∀ l i, s.decoder.load? = some l → (s.store.slot l.id).building = some i →
        ∀ b, chainAddr i.chain b ≠ some a) → t.mem.read a = s.mem.read a)

/-! ### Palettes -/

/-- R57 to R62: a Palette segment of any apply mode, by the state of the patch. The entries are clamped and written in
order; a segment that a tied patch does not take is refused with PATCH-BUSY. A report's FC is the engine's counter
(R167, log entry 31). -/
def Obligations.PaletteSegmentTaken : Prop :=
  ∀ (mode : ApplyMode) (q : PaletteId) (time : FrameCount) (es : List (Byte × Entry)) (s : State),
    es.length ≤ 256 → TakesContent s (6 + 5 * es.length) →
    let v := visited s (6 + 5 * es.length)
    let clamped := es.map fun x =>
      (x.1.toNat, ({ y := clampByte 16 235 x.2.y, cb := clampByte 16 240 x.2.cb, cr := clampByte 16 240 x.2.cr,
                     a := x.2.a } : Entry))
    let follow (t : Touched) : Patch := match mode with
      | .hold => .collecting q t
      | .next => .scheduled q t .nextFrame
      | .atTime => .scheduled q t (.atTime time)
      | .discard => .closed
    let written (t : Touched) : Touched := clamped.foldl (fun t e => putKey e.1 e.2 t) t
    exec (paletteCommand mode (BitVec.ofNat 4 q.val) (BitVec.ofNat 9 es.length) time (entryBytes es)) s = .next
      (match s.palette.patch with
       | .closed => { v with palette := { s.palette with patch := follow (written []) } }
       | .collecting p t =>
         if q = p then { v with palette := { s.palette with patch := follow (written t) } }
         else v.raise (.patchBusy q p)
       | .scheduled p _ _ =>
         if q = p ∧ mode = .discard then { v with palette := { s.palette with patch := .closed } }
         else v.raise (.patchBusy q p))

/-- R63: the palette unit's frame start. A SCHEDULED patch whose time has come is written into its palette, closes, and
PATCH-APPLIED is raised with the number of members; otherwise the palettes and the patch stand. The FC value is the one
that this frame start gives (R67): where the engine has taken this frame start already, the engine's; else the pending
clock value or FC + 1, which the model's own `skew` keeps for the engine, and which a second PALETTE_FRAME_START before
the engine's finds again. How the model tells the two apart, and the `skew` left, are its choice (log entry 5). -/
def Obligations.PatchAppliesAtFrameStart : Prop :=
  ∀ s : State, s.resetLow = false → ∃ t, exec .paletteFrameStart s = .next t ∧
    let fc : FrameCount := match s.skew with
      | .level => s.engine.pendingClock.getD (s.engine.fc + 1)
      | .engineAhead => s.engine.fc
      | .paletteAhead given _ => given
    t = { s with
      palette := t.palette, report := t.report
      skew := match s.skew with
        | .level => .paletteAhead fc false
        | .engineAhead => .level
        | x => x } ∧
    match s.palette.patch with
    | .scheduled p touched time =>
      let come : Prop := match time with
        | .nextFrame => True
        | .atTime x => (fc - x).toNat < 2 ^ 31
      (come → t.palette.patch = .closed ∧ t.report = s.report.enqueue fc (.patchApplied p touched.length) ∧
        ∀ (r : PaletteId) (ix : Byte), t.palette.entry r ix =
          if r = p then (getKey ix.toNat touched).getD (s.palette.entry r ix) else s.palette.entry r ix) ∧
      (¬come → t.palette = s.palette ∧ t.report = s.report)
    | _ => t.palette = s.palette ∧ t.report = s.report

/-- R55, R56, R58, R99: every step keeps every stored colour legal and the touched set a map of indexes 0–255. -/
def Obligations.ColourLawsKept : Prop := ∀ s t : State, ColourInv s → step s = .next t → ColourInv t

/-! ### The composition engine -/

/-- R69: T is due when (FC − T) mod 2^32 < 2^31, and its lateness is (FC − T) mod 2^32. T equal to FC is due with
lateness 0; one up to 2^31 − 1 frames behind is due, and one up to 2^31 frames ahead is not. The show schedule, the
palette patch and the sequencer's start time use this rule. -/
def Obligations.DueRule : Prop :=
  (∀ fc t : FrameCount,
    let behind := (fc.toNat + (2 ^ 32 - t.toNat)) % 2 ^ 32
    lateness fc t = behind ∧ (isDue fc t = true ↔ behind < 2 ^ 31) ∧ isDue fc fc = true ∧ lateness fc fc = 0 ∧
      ∀ n : Nat, (n < 2 ^ 31 → isDue fc (fc - BitVec.ofNat 32 n) = true ∧ lateness fc (fc - BitVec.ofNat 32 n) = n) ∧
        (1 ≤ n → n ≤ 2 ^ 31 → isDue fc (fc + BitVec.ofNat 32 n) = false)) ∧
  ∀ (fc t : FrameCount),
    (∀ e : ShowEntry, e.time = some t → e.due fc = isDue fc t ∧ e.lateness fc = lateness fc t) ∧
      (ApplyTime.atTime t).come fc = isDue fc t ∧
      ∀ s : State, s.engine.fc = fc → s.seq.config.startTime = t → s.seq.run = .armed → s.seq.config.startKind = .time →
        timeDue s = isDue fc t

/-- R91, R92: g(j) = floor((255 j + floor(N / 2)) / N) and the wipe boundary floor(W j / N). g(N) is 255, g lies in
0–255 and never falls as j rises; the boundary at j = N is W and lies within W before. R109, R110: the effective alpha
and the blended component by their formulas. With factors in 0–255 the effective alpha lies in 0–255 and equals the
third factor where two are 255; a blended component lies between the two values it mixes, is C at alpha 0 and P at alpha
255. -/
def Obligations.FadeBoundaryAndBlend : Prop :=
  (∀ n j w : Nat, 1 ≤ n → 1 ≤ j → j ≤ n →
     crossfadeStep n j = (255 * j + n / 2) / n ∧ wipeBoundary w n j = w * j / n ∧
       crossfadeStep n n = 255 ∧ crossfadeStep n j ≤ 255 ∧ (j < n → crossfadeStep n j ≤ crossfadeStep n (j + 1)) ∧
       wipeBoundary w n n = w ∧ wipeBoundary w n j ≤ w) ∧
  (∀ a o f p c alpha : Nat, a ≤ 255 → o ≤ 255 → f ≤ 255 → p ≤ 255 → c ≤ 255 → alpha ≤ 255 →
     effectiveAlpha a o f = (a * o * f + 32512) / 65025 ∧
       blendComponent alpha p c = (alpha * p + (255 - alpha) * c + 127) / 255 ∧
       effectiveAlpha a o f ≤ 255 ∧ effectiveAlpha a 255 255 = a ∧ effectiveAlpha 255 o 255 = o ∧
       effectiveAlpha 255 255 f = f ∧
       min p c ≤ blendComponent alpha p c ∧ blendComponent alpha p c ≤ max p c ∧
       blendComponent 0 p c = c ∧ blendComponent 255 p c = p)

/-- R16, R35, R52, R65, R70, R71, R127, R163: a valid Set Open writes the set id and the popup page and clears the old
set from every block; FC, the pending clock value, the flags word, F, the sequencer's configuration and flags copy, the
mixer, the report queue and object memory stand. That the engine's copy of W stands too is the model's choice (log entry
20). The store's slots give up their incoming versions and mark their current ones, chains released in ascending order
of id. -/
def Obligations.SetOpenClears : Prop :=
  ∀ (hi lo : Byte) (popup : Option PageId) (s : State), TakesContent s 3 →
    let popupByte : Byte := match popup with
      | some p => BitVec.ofNat 8 p.val
      | none => 0xFF
    ∃ t, exec (.setOpen [hi, lo, popupByte]) s = .next t ∧
      t.engine = { Engine.reset with
        fc := s.engine.fc, pendingClock := s.engine.pendingClock, rasterW := s.engine.rasterW, setId := hi ++ lo,
        popupPage := popup } ∧
      t.decoder = .idle ∧ t.palette = .reset ∧
      t.nav = { Nav.reset with flags := s.nav.flags, resting := s.nav.resting } ∧
      t.seq = { Sequencer.reset with config := s.seq.config, flagsCopy := s.seq.flagsCopy } ∧
      (∀ k, t.store.slot k = match s.store.slot k with
        | .ready c | .updating c _ | .swapping c _ | .dropping c => .dropping c
        | .empty | .loading _ | .pending _ => .empty) ∧
      t.store.free = s.store.free ++ (List.finRange 512).flatMap (fun k => match s.store.slot k with
        | .loading i | .pending i | .updating _ i | .swapping _ i => i.chain
        | .empty | .ready _ | .dropping _ => []) ∧
      t = { visited s 3 with
        engine := t.engine, decoder := t.decoder, palette := t.palette, nav := t.nav, seq := t.seq, store := t.store }

/-- R75, R76: a valid Page, Buttons or Animations segment for page p. For a page that is not in use and holds no pending
definition it is applied at once; otherwise it joins the pending definition, made from the current one where there is
none, and a final flag sets the final mark. A Page body gives the placements (saturated coordinates, windows), the
default button and the activation hold and empties both tables; a Buttons or Animations body gives its table; each field
stands at its offset (11.3, 11.5 to 11.7: `pageOf`, `buttonsOf`, `animationsOf`, which read a body in the statement's
own terms, as `PageFits`, `ButtonsFits` and `AnimationsFits` check it). Nothing else changes. That a Buttons body may
give an ANIMATION visual any 16-bit index, where R119 lists 0–7, and that it is stored as given, is the model's reading
(log entry 25). -/
def Obligations.DefinitionSegmentTaken : Prop :=
  ∀ (c : Instr) (b : List Byte) (edit : PageDef → PageDef) (s : State),
    (PageFits b ∧ c = .pageSegment b ∧ edit = fun _ => pageOf b) ∨
      (ButtonsFits s b ∧ c = .buttons b ∧ edit = fun d => { d with buttons := buttonsOf b }) ∨
      (AnimationsFits s b ∧ c = .animations b ∧ edit = fun d => { d with animations := animationsOf b }) →
    TakesContent s b.length →
    let p : PageId := Fin.ofNat 32 (num8 b 0)
    let final : Bool := num8 b 1 = 1
    let old := s.engine.page p
    let new : Page :=
      if p ∈ s.engine.contexts.pages ∨ old.waiting.isSome then
        match old.waiting with
        | some w => { old with waiting := some { body := edit w.body, final := w.final || final } }
        | none => { old with waiting := some { body := edit old.cur, final := final } }
      else { old with defined := true, cur := edit old.cur }
    exec c s = .next
      { visited s b.length with
        engine := { s.engine with pages := s.engine.pages.set p.val new p.isLt } }

/-- R78: a valid Scroll sets wx and wy of its placement at once where the page is not in use (a placement without a
window gains (wx, wy, 65535, 65535)), and is staged, replacing one for the same placement, where it is. -/
def Obligations.ScrollTaken : Prop :=
  ∀ (p : PageId) (j : Nat) (x1 x0 y1 y0 : Byte) (pl : Placement) (s : State), j < 256 → TakesContent s 6 →
    (s.engine.page p).defined = true → (s.engine.page p).cur.placements[j]? = some pl →
    let wx : Half := x1 ++ x0
    let wy : Half := y1 ++ y0
    let window : Window := match pl.window with
      | some w => { wx := wx, wy := wy, ww := w.ww, wh := w.wh }
      | none => { wx := wx, wy := wy, ww := 0xFFFF, wh := 0xFFFF }
    let cur := (s.engine.page p).cur
    let moved : Page := { s.engine.page p with
      cur := { cur with placements := cur.placements.set j { pl with window := some window } } }
    exec (.scroll [BitVec.ofNat 8 p.val, BitVec.ofNat 8 j, x1, x0, y1, y0]) s = .next
      { visited s 6 with
        engine :=
          if p ∈ s.engine.contexts.pages then
            { s.engine with
              staged := (s.engine.staged.filter fun g => !(g.page == p && g.index == j)) ++
                [{ page := p, index := j, wx := wx, wy := wy }] }
          else { s.engine with pages := s.engine.pages.set p.val moved p.isLt } }

/-- R82, R83: a valid Show, its fields at their offsets (11.3: `showOf`; N = 0 is stored as CUT). For SLIDE in a running
state of the sequencer it is refused with SLIDE-BUSY; with 8 entries in the schedule it is refused with SCHEDULE-FULL;
otherwise it is appended, its late flag set where its T is already due. The late flag's test and a report's FC use the
engine's counter (R83, R167, log entry 31). -/
def Obligations.ShowTaken : Prop :=
  ∀ (b : List Byte) (s : State), ShowFits b → TakesContent s b.length →
    let e := showOf b
    let late := match e.time with
      | some t => isDue s.engine.fc t
      | none => false
    exec (.showSegment b) s = .next
      (if e.ctx = .slide ∧ (s.seq.run = .running ∨ s.seq.run = .held ∨ s.seq.run = .draining) then
         (visited s b.length).raise .slideBusyShow
       else if 8 ≤ s.engine.schedule.length then
         (visited s b.length).raise (.scheduleFull e.ctx e.page .segment)
       else
         { visited s b.length with
           engine := { s.engine with schedule := s.engine.schedule ++ [{ e with late := late }] } })

/-- R68: a valid Clock makes its value the pending clock value; FC stands, and of the spec's state nothing else changes
(the model's own `skew` keeps that a Clock has come, log entry 5). R99: a valid Output makes its mode and its clamped
fill colour the pending output and changes nothing else. R171: a valid Attention Mask replaces the mask, and ATTN is
tested at once; a byte with bit 7 set is MALFORMED. -/
def Obligations.HostSettingsTaken : Prop :=
  (∀ (a b c d : Byte) (s : State), Accepts s 4 →
     exec (.clock [a, b, c, d]) s = .next
       { visited s 4 with
         engine := { s.engine with pendingClock := some (a ++ b ++ c ++ d) }, skew := s.skew.clockTook }) ∧
  (∀ (m y cb cr : Byte) (mode : OutMode) (s : State), Accepts s 4 →
     (m, mode) ∈ [((0 : Byte), OutMode.pass), (1, .composed), (2, .fill)] →
     let clamp (lo hi x : Byte) : Byte := if x.toNat < lo.toNat then lo else if hi.toNat < x.toNat then hi else x
     exec (.output [m, y, cb, cr]) s = .next
       { visited s 4 with mixer := { s.mixer with
           pendingOut := some { mode := mode, fill := { y := clamp 16 235 y, cb := clamp 16 240 cb, cr := clamp 16 240 cr } } } }) ∧
  (∀ (m : Byte) (s : State), Accepts s 1 →
     exec (.attentionMask [m]) s = .next
       (if m.toNat < 128 then
          { visited s 1 with report := { s.report with mask := m, attn := s.report.queue.any (enabledIn m) } }
        else (visited s 1).raise (.malformed 0x26 1)))

/-- R67, R68, R77, R84, R86, R90, R92: what the engine's frame start leaves. FC is the pending clock value, or else FC +
1, and no clock value is pending. Where the palette unit has taken this frame start already, FC is the value it was
given, and a Clock taken since stays pending: it came after this frame start (R68; how the model tells the two apart is
its choice, log entry 5). The copy of W is the mixer's, no scroll is staged, no entry of the schedule is due and what is
left kept its order, and an object is in the live reference set exactly when a page in use names it, in a placement, a
button's visual or an animation entry (R90). A context that no due entry is for stands as step 4 leaves it (R85). A
pending definition with its final mark set has replaced the current one, save for the window origins that a staged
scroll of the page then sets (R79); one whose final mark is clear is kept. A staged scroll sets the origin of the window
of the placement that now stands at its index, a placement without a window gaining one to its edges, and is dropped
where no placement stands there (R78, R79). Every page stands otherwise. R130: where a page in use is replaced so, a
MENU or POPUP for which no entry is due and whose page it is keeps its selection and its activation where the new table
has them selectable, else takes the default button and none, and every button's state and playhead are set anew; the
redefined mark is set. Every other such context's navigation state stands. The port, the decoder, the store, object
memory, the palettes and the mixer are not touched, nor are the flags word and the key queue. -/
def Obligations.EngineFrameStartResult : Prop :=
  ∀ s : State, s.resetLow = false →
    let inUse (e : Engine) (p : PageId) : Prop := ∃ c, match e.contexts.get c with
      | .empty => False
      | .showing q => q = p
      | .transition i o _ _ _ => i = some p ∨ o = some p
    let redefined (p : PageId) : Prop := inUse s.engine p ∧ ∃ w, (s.engine.page p).waiting = some w ∧ w.final = true
    ∃ t, exec .engineFrameStart s = .next t ∧
    (let next := s.engine.pendingClock.getD (s.engine.fc + 1)
     match s.skew with
     | .level | .engineAhead => t.engine.fc = next ∧ t.engine.pendingClock = none
     | .paletteAhead given clockSince => t.engine.fc = given ∧
         t.engine.pendingClock = if clockSince then s.engine.pendingClock else none) ∧
    t.engine.rasterW = s.mixer.width ∧ t.engine.staged = [] ∧
    t.engine.schedule = s.engine.schedule.filter (fun e => match e.time with
      | some x => !isDue t.engine.fc x
      | none => false) ∧
    (∀ k, k ∈ t.engine.liveSet ↔ ∃ p, inUse t.engine p ∧
      let d := (t.engine.page p).cur
      (∃ x ∈ d.placements, x.obj = k) ∨
        (∃ b ∈ d.buttons, .object k ∈ [b.normal, b.selected, b.activated, b.disabled]) ∨
        ∃ a ∈ d.animations, ∃ x ∈ a.entries, x.obj = some k) ∧
    t.port = s.port ∧ t.decoder = s.decoder ∧ t.store = s.store ∧ t.mem = s.mem ∧ t.palette = s.palette ∧
    t.mixer = s.mixer ∧ t.resetLow = false ∧ t.nav.flags = s.nav.flags ∧ t.nav.keys = s.nav.keys ∧
    (∀ c, (∀ e ∈ s.engine.schedule, e.ctx = c → ∃ x, e.time = some x ∧ isDue t.engine.fc x = false) →
      t.engine.contexts.get c = match s.engine.contexts.get c with
        | .transition i o k n j =>
          if n ≤ j then (match i with
            | some p => .showing p
            | none => .empty)
          else .transition i o k n (j + 1)
        | x => x) ∧
    (∀ p w, (s.engine.page p).waiting = some w →
      (w.final = false → (t.engine.page p).waiting = some w) ∧
      (w.final = true → (t.engine.page p).waiting = none ∧ (t.engine.page p).defined = true ∧
        (t.engine.page p).cur.buttons = w.body.buttons ∧ (t.engine.page p).cur.animations = w.body.animations ∧
        (t.engine.page p).cur.defaultButton = w.body.defaultButton ∧ (t.engine.page p).cur.hold = w.body.hold ∧
        ((∀ g ∈ s.engine.staged, g.page ≠ p) → (t.engine.page p).cur = w.body))) ∧
    t.nav.flagsChanged = s.nav.flagsChanged ∧ t.nav.resting = s.nav.resting ∧
    (t.nav.redefined = true ↔
      s.nav.redefined = true ∨ ∃ c p, (s.nav.get c).page = some p ∧ redefined p) ∧
    (∀ c : NavCtx,
      (∀ e ∈ s.engine.schedule, e.ctx = ctxOf c → ∃ x, e.time = some x ∧ isDue t.engine.fc x = false) →
      let n := s.nav.get c
      ((∀ p, n.page = some p → ¬redefined p) → t.nav.get c = n) ∧
      ∀ p, n.page = some p → redefined p →
        let d := (t.engine.page p).cur
        let holds (i : Nat) : Bool := d.buttons[i]?.any fun b =>
          b.mode == .none || s.nav.flags &&& b.cond.mask == b.cond.compare
        let selected := (n.selected.filter holds).or (d.defaultButton.filter holds)
        let act := n.activation.filter fun a => holds a.button
        (t.nav.get c).page = some p ∧ (t.nav.get c).stack = n.stack ∧ (t.nav.get c).selected = selected ∧
          (t.nav.get c).activation = act ∧
          ∀ m, (t.nav.get c).buttons[m]? =
            d.buttons[m]?.map (buttonByRule d s.nav.flags selected (act.map Activation.button) m)) ∧
    ∀ p,
      let old := s.engine.page p
      let base : Page := match old.waiting with
        | some w => if w.final then { defined := true, cur := w.body, waiting := none } else old
        | none => old
      let moved (j : Nat) (pl : Placement) : Placement :=
        match (s.engine.staged.filter fun g => g.page == p && g.index == j).getLast? with
        | none => pl
        | some g => { pl with window := some (match pl.window with
            | some w => { wx := g.wx, wy := g.wy, ww := w.ww, wh := w.wh }
            | none => { wx := g.wx, wy := g.wy, ww := 0xFFFF, wh := 0xFFFF }) }
      t.engine.page p = { base with cur := { base.cur with placements := (t.engine.page p).cur.placements } } ∧
        (∀ j, (t.engine.page p).cur.placements[j]? = (base.cur.placements[j]?).map (moved j)) ∧
        ((∀ g ∈ s.engine.staged, g.page ≠ p) → t.engine.page p = base)

/-- R86, R87, R88. First, a schedule of one due entry, in any context, with any page or a hide, any transition and any
origin. The contexts stand as step 4 leaves them (R85). An entry for a page that is undefined after step 2 (R77) is
refused with UNDEFINED-PAGE and one for a page in use in another context with PAGE-BUSY, and every context stands.
Otherwise a transition in the entry's context is finished; the context then shows the page, for CUT (a length of 0 too,
log entry 22) and for the page that it shows already, and else enters the transition at step 1; SHOWN is raised, and
LATE follows where the late flag is set. The navigation state of MENU or POPUP is rebuilt for the page, states and
playheads too (R128), or cleared but for its stack (R129); the sequencer takes the slide page, resolves a placed entry
that is shown and begins its dwell (R157); a refused entry of its own it gives up with ENTRY-SKIPPED, and advances in a
running state without a target (R158); that ENTRY-SKIPPED stands after the report of the refusal is the model's choice
(log entry 29). Second, any schedule: of the due entries of a context the one of the smallest lateness wins, the last
inserted among equals; the others are reported SUPERSEDED in order of insertion, one of the sequencer's given up at once
as above (its place among the reports: log entry 29), and the frame start is then the one that finds the winners alone;
entries that are not due stay in their order. Third, an entry for a context later in the order SLIDE, MENU, POPUP is
applied after the others: as at a frame start of the same FC that finds it alone after theirs, with each transition set
one step back beforehand because that frame start steps it again. -/
def Obligations.DueEntriesAreApplied : Prop :=
  (∀ (e : ShowEntry) (s : State), s.resetLow = false → s.engine.contexts.Exclusive → s.engine.schedule = [e] →
    let fc := s.engineStartFc
    (∀ x, e.time = some x → isDue fc x = true) →
    let lateness := min 65535 (match e.time with
      | some x => (fc - x).toNat
      | none => 0)
    let show? (p : Option PageId) : CtxState := match p with
      | some p => .showing p
      | none => .empty
    let stepped (d : Ctx) : CtxState := match s.engine.contexts.get d with
      | .transition i o k n j => if n ≤ j then show? i else .transition i o k n (j + 1)
      | x => x
    let now : Option PageId := match stepped e.ctx with
      | .transition i _ _ _ _ => i
      | .showing p => some p
      | .empty => none
    let defined (p : PageId) : Bool :=
      (s.engine.page p).defined || ((s.engine.page p).waiting.map PendingDef.final).getD false
    let after : CtxState := match e.trans with
      | .cut => show? e.page
      | .crossfade n => if n = 0 ∨ e.page = now then show? e.page else .transition e.page now .crossfade n.toNat 1
      | .wipe n => if n = 0 ∨ e.page = now then show? e.page else .transition e.page now .wipe n.toNat 1
    let refused (t : State) (r : ReportBody) : Prop :=
      (∀ d, t.engine.contexts.get d = stepped d) ∧
      (t.seq.target, t.seq.run, t.seq.drain, t.seq.placed, t.report) =
        (match e.origin, s.seq.placed with
          | .sequencer, some x =>
            let r := (s.report.enqueue fc r).enqueue fc (.entrySkipped x.entry x.page)
            let u := if s.seq.run.isRunning = true ∧ s.seq.target = none then
                advanceByRule defined fc (some x.entry) s.seq r
              else (s.seq, r)
            (u.1.target, u.1.run, u.1.drain, none, u.2)
          | _, x => (s.seq.target, s.seq.run, s.seq.drain, x, s.report.enqueue fc r))
    let told : ReportUnit := if e.late then
        (s.report.enqueue fc (.shown e.ctx e.page)).enqueue fc (.late e.ctx e.page lateness)
      else s.report.enqueue fc (.shown e.ctx e.page)
    ∃ t, exec .engineFrameStart s = .next t ∧ t.engine.fc = fc ∧ t.engine.schedule = [] ∧
      (∀ p, e.page = some p → defined p = false → refused t (.undefinedPage e.ctx p)) ∧
      (∀ p d, e.page = some p → defined p = true → d ≠ e.ctx → p ∈ (stepped d).pages → refused t (.pageBusy e.ctx p d)) ∧
      ((∀ p, e.page = some p → defined p = true ∧ ∀ d, d ≠ e.ctx → p ∉ (stepped d).pages) →
        t.engine.contexts.get e.ctx = after ∧ (∀ d, d ≠ e.ctx → t.engine.contexts.get d = stepped d) ∧
        (∀ c, e.ctx = ctxOf c → t.report = told ∧ (t.nav.get c).page = e.page ∧
          (t.nav.get c).stack = (s.nav.get c).stack ∧ (t.nav.get c).activation = none ∧
          (e.page = none → (t.nav.get c).buttons = [] ∧ (t.nav.get c).selected = none) ∧
          ∀ p, e.page = some p →
            let d := (t.engine.page p).cur
            let choice (i : Option Nat) : Option Nat := i.filter fun i =>
              (d.buttons[i]?.map fun b => b.condHolds s.nav.flags).getD false
            let selected := (choice e.restore).or (choice d.defaultButton)
            (t.nav.get c).selected = selected ∧
              ∀ m, (t.nav.get c).buttons[m]? = d.buttons[m]?.map (buttonByRule d s.nav.flags selected none m)) ∧
        (e.ctx = .slide → t.seq.slidePage = e.page ∧
          let stays (i : Nat) : Dwell := match s.seq.list[i]? with
            | some x => if x.duration = 0 then .still else .counting x.duration
            | none => .still
          let before : Dwell := match s.engine.contexts.slide, s.seq.dwell with
            | .transition _ _ _ _ _, .entering => stays (s.seq.shown.getD 0)
            | _, x => x
          match e.page, s.seq.placed with
          | some p, some x => t.seq.placed = none ∧ t.seq.shown = some x.entry ∧
              t.seq.dwell = (
                if s.seq.run.isRunning = true ∧ s.seq.target = none then
                  if s.seq.slidePage = some p ∨ ∀ y, s.seq.list[x.entry]? = some y → y.trans = .cut then stays x.entry
                  else .entering
                else before) ∧
              t.report = match s.seq.list[x.entry]?.bind SlideEntry.cue with
                | some q => told.enqueue fc (.cue x.entry q)
                | none => told
          | _, x => t.seq.placed = x ∧ t.seq.shown = s.seq.shown ∧ t.seq.dwell = before ∧ t.report = told))) ∧
  (∀ s : State, s.resetLow = false →
    let fc := s.engineStartFc
    let defined (p : PageId) : Bool :=
      (s.engine.page p).defined || ((s.engine.page p).waiting.map PendingDef.final).getD false
    let due (e : ShowEntry) : Bool := match e.time with
      | some x => isDue fc x
      | none => true
    let lateness (e : ShowEntry) : Nat := match e.time with
      | some x => (fc - x).toNat
      | none => 0
    let beaten (m : Nat) (e : ShowEntry) : Bool := (List.range s.engine.schedule.length).any fun j =>
      s.engine.schedule[j]?.any fun x => due x && x.ctx == e.ctx &&
        (lateness x < lateness e || (lateness x == lateness e && m < j))
    let places (lose : Bool) : List ShowEntry := (List.range s.engine.schedule.length).filterMap fun m =>
      s.engine.schedule[m]?.filter fun e => due e && beaten m e == lose
    let told := (places true).foldl (fun (u : Sequencer × ReportUnit) e =>
      let r := u.2.enqueue fc (.superseded e.ctx e.page e.origin)
      match e.origin, u.1.placed with
      | .sequencer, some x =>
        let q := { u.1 with placed := none }
        let r := r.enqueue fc (.entrySkipped x.entry x.page)
        if q.run.isRunning = true ∧ q.target = none then advanceByRule defined fc (some x.entry) q r else (q, r)
      | _, _ => (u.1, r)) (s.seq, s.report)
    ∃ t u, exec .engineFrameStart s = .next t ∧
      exec .engineFrameStart
        { s with
          engine := { s.engine with schedule := places false }, seq := told.1, report := told.2 } = .next u ∧
      t = { u with engine := { u.engine with schedule := s.engine.schedule.filter fun e => !due e } }) ∧
  (∀ (l1 l2 : List ShowEntry) (e : ShowEntry) (s : State), s.resetLow = false → s.engine.schedule = l1 ++ e :: l2 →
    (∀ x ∈ l1 ++ e :: l2, ∀ v, x.time = some v → isDue s.engineStartFc v = true) →
    let rank (x : ShowEntry) : Nat := match x.ctx with
      | .slide => 0
      | .menu => 1
      | .popup => 2
    (∀ x ∈ l1 ++ l2, rank x < rank e) →
    let back (x : CtxState) : CtxState := match x with
      | .transition i o k n j => .transition i o k n (j - 1)
      | x => x
    ∃ u v, exec .engineFrameStart { s with engine := { s.engine with schedule := l1 ++ l2 } } = .next u ∧
      exec .engineFrameStart
        { u with
          engine := { u.engine with
            schedule := [e], pendingClock := some u.engine.fc
            contexts := { slide := back u.engine.contexts.slide, menu := back u.engine.contexts.menu,
                          popup := back u.engine.contexts.popup } }
          skew := .level } = .next v ∧
      exec .engineFrameStart s = .next
        { v with engine := { v.engine with pendingClock := u.engine.pendingClock }, skew := u.skew })

/-- R85: TRANSITION_END at step N of a context's transition leaves the context SHOWING its incoming page, or EMPTY if
that is none. The sequencer hears it for SLIDE: an ENTERING dwell becomes COUNTING with the shown entry's duration, or
STILL if it is 0 (R157). That the row alone does nothing before step N is the model's choice (log entry 6). -/
def Obligations.TransitionEnds : Prop :=
  ∀ (c : Ctx) (i o : Option PageId) (k : FadeKind) (n j : Nat) (s : State), s.resetLow = false →
    s.engine.contexts.get c = .transition i o k n j →
    let after : CtxState := match i with
      | some p => .showing p
      | none => .empty
    let duration := (s.seq.list[s.seq.shown.getD 0]?.map SlideEntry.duration).getD 0
    exec (.transitionEnd c) s = .next
      (if n ≤ j then
         { s with
           engine := { s.engine with contexts := s.engine.contexts.set after c }
           seq := if c = .slide ∧ s.seq.dwell = .entering then
               { s.seq with dwell := if duration = 0 then .still else .counting duration }
             else s.seq }
       else s)

/-- R80, R81, R87: every step keeps the schedule within 8 entries, every transition at a step 1–N of a length 1–255 with
a page on one side, every page in use in one context at most, and every page in use defined. -/
def Obligations.EngineLawsKept : Prop := ∀ s t : State, EngineInv s → step s = .next t → EngineInv t

/-! ### The line mixer -/

/-- R97, R100: the mixer's frame start opens a frame with a line count of 0 and an unset width, sets both drop counters
to 0, and applies a pending output; nothing else changes. R97, R112: the mixer's frame end with a frame open. The
measured raster is in use; OVERLOAD is raised for the first frame of a run with drops, and then RASTER-OK or RASTER-BAD
where the raster state changes; the overload memory tells whether the frame dropped a span. With no frame open nothing
changes (the model's own `skew` is set level, log entry 5). That the drop counters keep their values at the frame end is
the model's choice (log entry 21). -/
def Obligations.MixerFrames : Prop :=
  (∀ s : State, s.resetLow = false →
     exec .mixerFrameStart s = .next { s with mixer := { s.mixer with
       out := match s.mixer.pendingOut with
         | some o => o
         | none => s.mixer.out
       pendingOut := none, frame := some { lines := 0, width := none }, dropLines := 0, dropSpans := 0 } }) ∧
  (∀ s : State, s.resetLow = false →
     (s.mixer.frame = none → exec .mixerFrameEnd s = .next { s with skew := .level }) ∧
     ∀ f, s.mixer.frame = some f →
       let w := f.width.getD 0
       let h := f.lines
       let ok := decide (320 ≤ w ∧ w ≤ 1920 ∧ 240 ≤ h ∧ h ≤ 1080)
       let new : RasterState := if ok then .valid else .invalid
       let r1 := if 0 < s.mixer.dropSpans ∧ s.mixer.overload = false then
           s.report.enqueue s.engine.fc (.overload s.mixer.dropLines s.mixer.dropSpans)
         else s.report
       let r2 := if new = s.mixer.raster then r1
         else r1.enqueue s.engine.fc (if ok then .rasterOk w h else .rasterBad w h)
       exec .mixerFrameEnd s = .next
         { s with
           mixer := { s.mixer with
             raster := new, width := w, height := h, frame := none, overload := decide (0 < s.mixer.dropSpans) }
           report := r2, skew := .level })

/-- R96, R97, R98, R101: a line passes to the video output unchanged outside an open frame, in PASS mode, while the
raster is not VALID, and from line H on; in an open frame it is counted. Nothing else changes; that a line from H on
adds nothing to the drop counters is the model's choice (log entry 14). R101, R104, R107, R108, R111: a line of a VALID
frame in COMPOSED or FILL mode. Pixel x below W leaves as the admitted spans, bottom to top, drawn over its starting
value; a pixel from W on passes; drops are counted. The candidates are `lineCandidates`, their admission `admitSpans`
and the drawing of a span `drawSpan`, of which CandidatesAndBudget states what they are; the part's other blocks and
object memory stand. -/
def Obligations.LineResult : Prop :=
  (∀ (l : List Pixel) (s : State), s.resetLow = false →
     (s.mixer.frame = none → exec (.line l) s = .next { s with mixer := { s.mixer with videoOut := l } }) ∧
     ∀ f, s.mixer.frame = some f →
       s.mixer.out.mode = .pass ∨ s.mixer.raster ≠ .valid ∨ s.mixer.height ≤ f.lines →
       s.mixer.dropSpans ≤ 65535 →
       exec (.line l) s = .next { s with mixer := { s.mixer with
         videoOut := l
         frame := some { lines := min (f.lines + 1) 65535, width := some (f.width.getD (min l.length 65535)) } } }) ∧
  (∀ (l : List Pixel) (f : OpenFrame) (s : State), s.resetLow = false → s.mixer.frame = some f →
     s.mixer.out.mode ≠ .pass → s.mixer.raster = .valid → f.lines < s.mixer.height →
     let a := admitSpans s.mixer.width (lineCandidates s f.lines)
     ∃ out : List Pixel, out.length = l.length ∧
       (∀ x (hx : x < l.length), out[x]? = some
         (if x < s.mixer.width then
            a.spans.foldl (drawSpan s.mem s.palette x) (if s.mixer.out.mode = .fill then s.mixer.out.fill else l[x])
          else l[x])) ∧
       exec (.line l) s = .next { s with mixer := { s.mixer with
         videoOut := out
         frame := some { lines := min (f.lines + 1) 65535, width := some (f.width.getD (min l.length 65535)) }
         dropLines := if a.dropped = 0 then s.mixer.dropLines else min (s.mixer.dropLines + 1) 65535
         dropSpans := min (s.mixer.dropSpans + a.dropped) 65535 } })

/-- R102 to R106: the candidates of a line y, in order. POPUP before MENU before SLIDE; a context's showing page, or its
incoming and then its outgoing page with their fades (R91) and, in a WIPE, their sides of the boundary (R92); within a
page from the last placement to the first. A placement is a candidate where it is visible, an object is drawn for it and
that object's slot has a current version, the line meets the displayed rectangle of the clamped window, and a column of
it is left within the raster and the boundary. The drawn object is the placement's own where no button drives it; else
the button's state, or its resting look where the page is not the context's navigation page, picks the visual, HIDDEN
and an entry without an object draw nothing, and an invalid ANIMATION acts as KEEP (R124, R125). R107: candidates are
admitted one by one while 16 spans and a total width of 2 × W are not passed, else dropped; so at most 16 are admitted,
with a total of at most 2 × W, every candidate is one or the other, and the admitted ones keep their order. R104, R108
to R110: a span drawn at a column it covers blends the palette colour of the object pixel there, and draws nothing
elsewhere. -/
def Obligations.CandidatesAndBudget : Prop :=
  (∀ (s : State) (y : Nat),
    let W := s.mixer.width
    let sides (x : CtxState) : List (PageId × Nat × Nat × Nat) := match x with
      | .empty => []
      | .showing p => [(p, 0, W, 255)]
      | .transition i o .crossfade n j =>
        i.toList.map (fun p => (p, 0, W, (255 * j + n / 2) / n)) ++
          o.toList.map fun p => (p, 0, W, 255 - (255 * j + n / 2) / n)
      | .transition i o .wipe n j =>
        i.toList.map (fun p => (p, 0, min W (s.engine.rasterW * j / n), 255)) ++
          o.toList.map fun p => (p, s.engine.rasterW * j / n, W, 255)
    let drawn (c : Ctx) (p : PageId) (j : Nat) (own : ObjId) : Option ObjId :=
      let d := (s.engine.page p).cur
      match d.buttons.findIdx? (fun b => b.placement == j) with
      | none => some own
      | some i =>
        (d.buttons[i]?).bind fun b =>
          let resting : ButtonState × Nat :=
            (if b.mode = .none ∨ s.nav.resting &&& b.cond.mask = b.cond.compare then .normal
             else if b.mode = .showIf then .hidden else .disabled, 0)
          let live (n : NavState) : ButtonState × Nat :=
            if n.page = some p then
              ((n.buttons[i]?).map fun x => (x.state, (x.head.map Playhead.entry).getD 0)).getD resting
            else resting
          let look : ButtonState × Nat := match c with
            | .slide => resting
            | .menu => live s.nav.menu
            | .popup => live s.nav.popup
          let shown (v : Visual) : Option ObjId := match v with
            | .keep => some own
            | .object k => some k
            | .animation ix => match d.animations[ix]? with
              | some a => (a.entries[look.2]?).bind AnimEntry.obj
              | none => some own
          match look.1 with
          | .hidden => none
          | .disabled => if b.disabled = .keep then shown b.normal else shown b.disabled
          | .normal => shown b.normal
          | .selected => shown b.selected
          | .activating => shown b.activated
    let candidate (c : Ctx) (p : PageId) (lo hi fade j : Nat) (pl : Placement) : Option Span :=
      (drawn c p j pl.obj).bind fun k => ((s.store.slot k).current).bind fun v =>
        let factor := match pl.reduction with
          | .one => 1
          | .two => 2
          | .four => 4
        let side (size origin extent : Nat) : Nat × Nat := (min origin (size - 1), max 1 (min extent (size - min origin (size - 1))))
        let across := match pl.window with
          | none => (0, v.width)
          | some w => side v.width w.wx.toNat w.ww.toNat
        let down := match pl.window with
          | none => (0, v.height)
          | some w => side v.height w.wy.toNat w.wh.toNat
        let dw : Nat := (across.2 + factor - 1) / factor
        let dh : Nat := (down.2 + factor - 1) / factor
        let first := max lo pl.x.toNat
        let past := min hi (pl.x + dw).toNat
        if pl.visible = true ∧ pl.y ≤ y ∧ (y : Int) < pl.y + dh ∧ first < past then
          some { lo := first, hi := past, x0 := pl.x, wx := across.1, row := down.1 + factor * (y - pl.y).toNat,
                 k := factor, version := v, palette := pl.palette, opacity := pl.opacity, fade := fade }
        else none
    lineCandidates s y = [Ctx.popup, .menu, .slide].flatMap fun c => (sides (s.engine.contexts.get c)).flatMap fun x =>
      let places := (s.engine.page x.1).cur.placements
      (List.range places.length).reverse.filterMap fun j =>
        (places[j]?).bind (candidate c x.1 x.2.1 x.2.2.1 x.2.2.2 j)) ∧
  (∀ (w : Nat) (l : List Span),
    let a := admitSpans w l
    a.spans.length ≤ 16 ∧ (a.spans.map Span.width).sum ≤ 2 * w ∧ a.spans.length + a.dropped = l.length ∧
      a.spans.reverse.Sublist l) ∧
  (∀ w : Nat, (admitSpans w []).spans = [] ∧ (admitSpans w []).dropped = 0 ∧ ∀ (l : List Span) (sp : Span),
    let a := admitSpans w l
    let b := admitSpans w (l ++ [sp])
    if a.spans.length < 16 ∧ (a.spans.map Span.width).sum + (sp.hi - sp.lo) ≤ 2 * w then
      b.spans = sp :: a.spans ∧ b.dropped = a.dropped
    else b.spans = a.spans ∧ b.dropped = a.dropped + 1) ∧
  (∀ (m : Memory) (pal : PaletteUnit) (x : Nat) (c : Pixel) (sp : Span),
    let u := sp.wx + sp.k * ((x : Int) - sp.x0).toNat
    let v := sp.version
    let bits := v.depth.bits
    let byte := (chainRead m v.chain (sp.row * strideOf v.width v.depth + u * bits / 8)).toNat
    let e := pal.entry sp.palette (BitVec.ofNat 8 (byte / 2 ^ (8 - bits * (u % (8 / bits) + 1)) % 2 ^ bits))
    let alpha := (e.a.toNat * sp.opacity.toNat * sp.fade + 32512) / 65025
    let mix (p c : Byte) : Byte := BitVec.ofNat 8 ((alpha * p.toNat + (255 - alpha) * c.toNat + 127) / 255)
    drawSpan m pal x c sp =
      if sp.lo ≤ x ∧ x < sp.hi then { y := mix e.y c.y, cb := mix e.cb c.cb, cr := mix e.cr c.cr } else c)

/-- R110: a composition over legal video, or over the fill colour, is legal: with every stored colour legal, a LINE of
legal pixels leaves legal pixels on the video output. The fades are in range because every transition is (R80). -/
def Obligations.LegalVideoStaysLegal : Prop :=
  ∀ (l : List Pixel) (s t : State), ColourInv s → EngineInv s → (∀ p ∈ l, LegalPixel p) →
    exec (.line l) s = .next t → ∀ p ∈ t.mixer.videoOut, LegalPixel p

/-! ### The navigation unit -/

/-- R117, R118: a valid Flags clears the bits of its clear mask and then sets the bits of its set mask. Where the word
changes, the mark is set and the sequencer hears the new word. R150 to R153: it takes it as its copy; a FLAGS start
source whose condition turns true starts the run in ARMED, and in ENDED with REPEAT or LOOP, and a FLAGS stop source
whose condition turns true ends the run or begins to drain it in RUNNING and HELD (`flagsByRule`, which says these rules
in the statement's own terms). R131: a valid Key. With the repeat flag set it is discarded while the queue holds any
entry; on a full queue it raises KEY-DROPPED; otherwise it joins the queue. A number outside 1–99 with key NUMBER is
MALFORMED. That queue and report carry the number byte of any other key as it came is the model's choice (log entry 15).
A report's FC is the engine's counter (R167, log entry 31). -/
def Obligations.KeyAndFlagsTaken : Prop :=
  (∀ (s1 s0 c1 c0 : Byte) (s : State), Accepts s 4 →
     let new : Half := (s.nav.flags &&& ~~~(c1 ++ c0)) ||| (s1 ++ s0)
     let u := flagsByRule (fun p => (s.engine.page p).defined) s.engine.fc new s.seq s.report
     exec (.flags [s1, s0, c1, c0]) s = .next
       (if new = s.nav.flags then visited s 4
        else
          { visited s 4 with
            nav := { s.nav with flags := new, flagsChanged := true }, seq := u.1, report := u.2 })) ∧
  (∀ (code n r : Byte) (key : Key) (s : State), Accepts s 3 → r = 0 ∨ r = 1 →
     (code, key) ∈ [((0 : Byte), Key.up), (1, .down), (2, .left), (3, .right), (4, .ok), (5, .back), (6, .number),
       (7, .popup)] →
     exec (.key [code, n, r]) s = .next
       (if key = .number ∧ (n = 0 ∨ 99 < n.toNat) then (visited s 3).raise (.malformed 0x20 3)
        else if r = 1 ∧ s.nav.keys ≠ [] then visited s 3
        else if 8 ≤ s.nav.keys.length then (visited s 3).raise (.keyDropped key n)
        else
          { visited s 3 with nav := { s.nav with keys := s.nav.keys ++ [{ key := key, number := n, rep := r == 1 }] } }))

/-- R126, R132 to R139, R141, R143: what the navigation frame end leaves. First, the oldest key has left the queue, F is
the flags word as the frame end found it, and nothing of the port, the decoder, the store, object memory, the palettes,
the mixer, the display contexts, the pages or FC has changed. Second, in a context whose page stands, with no key
waiting and no hold running out: with a mark set a false condition makes its button HIDDEN or DISABLED and one turned
true makes it NORMAL, a selection no longer selectable moves to the lowest selectable button, which becomes SELECTED, or
to none, and an activation no longer selectable is cancelled; with no mark set the states stand. An activation that goes
on counts down by 1. A changed state restarts its playhead; a button whose state does not change keeps its playhead,
which steps (`stepByRule`). Third, every frame end, with or without a mark, a hold that runs out or a key
(`navEndByRule`, which says the rules in the statement's own terms): the four steps in their order, MENU before POPUP. A
hold that runs out executes its action at step 2, so a key of that context at step 3 is not discarded (R143), and a key
meets the states that step 1 has just evaluated. Its premise, a state for each button of the navigation page, is a law
that every step keeps (NavigationFollowsTheContexts). No playhead keeps the model's own mark (log entries 8 and 30); the
model's own `skew` is set level (log entry 5); report order within a SET-FLAGS: log entry 29. Readings of the model in
`navEndByRule`: a key at step 3 after a SET-FLAGS of step 2 finds selectable what the last evaluation found (log entry
12); in SLIDE focus without a reference entry LEFT is ignored, and RIGHT advances from none, which EMPTY-RUN carries
(log entry 16). -/
def Obligations.NavFrameEndResult : Prop :=
  (∀ s : State, s.resetLow = false → ∃ t, exec .navFrameEnd s = .next t ∧
    t.nav.keys = s.nav.keys.tail ∧ t.nav.resting = s.nav.flags ∧ t.nav.redefined = false ∧
    t.port = s.port ∧ t.decoder = s.decoder ∧ t.store = s.store ∧ t.mem = s.mem ∧ t.palette = s.palette ∧
    t.mixer = s.mixer ∧ t.engine = { s.engine with schedule := t.engine.schedule } ∧
    s.engine.schedule <+: t.engine.schedule) ∧
  (∀ (c : NavCtx) (p : PageId) (s : State), s.resetLow = false → s.nav.keys = [] → (s.nav.get c).page = some p →
    let n := s.nav.get c
    let d := (s.engine.page p).cur
    let marked := s.nav.flagsChanged || s.nav.redefined
    let holds (i : Nat) : Bool := (d.buttons[i]?.map fun b => b.condHolds s.nav.flags).getD false
    n.buttons.length = d.buttons.length →
    (∀ a, n.activation = some a → (marked = true ∧ holds a.button = false) ∨ 1 < a.left) →
    let lowest := (List.range d.buttons.length).find? holds
    let moves : Bool := marked && (n.selected.map fun i => !holds i).getD false
    let selected := if moves then lowest else n.selected
    let state (m : Nat) (b : Button) (x : ButtonState) : ButtonState :=
      if marked = false then x
      else if b.condHolds s.nav.flags = false then (if b.mode = .showIf then .hidden else .disabled)
      else if moves = true ∧ lowest = some m then .selected
      else if x = .hidden ∨ x = .disabled then .normal
      else x
    ∃ t, exec .navFrameEnd s = .next t ∧ (t.nav.get c).page = some p ∧ (t.nav.get c).stack = n.stack ∧
      (t.nav.get c).selected = selected ∧
      (t.nav.get c).activation = (n.activation.filter fun a => !marked || holds a.button).map
        (fun a => { a with left := a.left - 1 }) ∧
      (t.nav.get c).buttons.length = n.buttons.length ∧
      (∀ m b x y, d.buttons[m]? = some b → n.buttons[m]? = some x → (t.nav.get c).buttons[m]? = some y →
        y.state = state m b x.state ∧
        (y.state ≠ x.state → y.head = headByRule d b y.state false) ∧
        (y.state = x.state → y.head = x.head.map fun h =>
          { ((animationByRule d b x.state).map (stepByRule · h)).getD h with fresh := false })) ∧
      ((∀ e, (s.nav.get e).activation = none) → t.nav.flagsChanged = false)) ∧
  ∀ s : State, s.resetLow = false → (∀ c, (s.nav.get c).buttons.length = (shownDef s c).buttons.length) →
    exec .navFrameEnd s = .next { navEndByRule s with skew := .level }

/-- R134 to R139: one key at a navigation frame end with no mark set. First, an arrow key, OK or NUMBER with focus in a
context without an activation. An arrow key follows the neighbours in its direction from the selected button: the first
hop, of at most 24, that reaches none, the button it began at or a selectable button ends the search, and only the last
of these moves; with none selected it goes to the lowest selectable button; OK to the selected button; NUMBER to the
lowest selectable button of that number. Selectable is what the last evaluation found (log entry 12). The target becomes
selected and the button that was selected NORMAL. OK and NUMBER activate the target, an arrow key an auto-activate one:
it is ACTIVATING with the page's hold, and with a hold of 0 SELECTED again, ACTION raised and its action performed
(`actionByRule`). With no target nothing changes. BACK inserts the stack's top with its restore button and pops it; on
an empty stack MENU raises STACK-EMPTY and POPUP is closed. Second, a key other than POPUP is discarded while its focus
context has an activation that goes on. Third, the POPUP key in any focus: it closes POPUP and empties its stack, opens
the popup page, or is ignored. Fourth, keys in SLIDE focus: RIGHT and LEFT act as NEXT and PREV, OK pauses and resumes,
others are ignored. An insertion that finds 8 entries raises SCHEDULE-FULL and leaves the stack alone. Activations of
other contexts go on. NavFrameEndResult says every frame end, with a mark or a hold that runs out too. `arrowByRule` and
`actionByRule` say their rules in the statement's own terms. Report order within a SET-FLAGS action, FLAGS-CHANGED
before what the sequencer raises on it, is the model's choice (log entry 29); RIGHT and LEFT in SLIDE focus without a
reference entry are its reading (log entry 16). -/
def Obligations.KeyIsHandled : Prop :=
  (∀ (c : NavCtx) (p : PageId) (e : KeyEntry) (rest : List KeyEntry) (s : State), s.resetLow = false →
    s.nav.flagsChanged = false → s.nav.redefined = false → s.nav.keys = e :: rest →
    let n := s.nav.get c
    let d := (s.engine.page p).cur
    n.page = some p → (c = .menu → s.nav.popup.page = none ∧ d.buttons ≠ []) → n.activation = none →
    n.buttons.length = d.buttons.length →
    let states (t : State) (m : Nat) : Option ButtonState := (t.nav.get c).buttons[m]?.map ButtonNav.state
    let handled (target : Option Nat) (activates : Nat → Bool) : Prop :=
      ∃ t, exec .navFrameEnd s = .next t ∧ t.nav.keys = rest ∧ (t.nav.get c).page = some p ∧
        match target with
        | none => (t.nav.get c).selected = n.selected ∧ (t.nav.get c).activation = none ∧
            (t.nav.get c).stack = n.stack ∧ ∀ m, states t m = states s m
        | some j =>
          let held := activates j = true ∧ d.hold ≠ 0
          (t.nav.get c).selected = some j ∧
            (t.nav.get c).activation = (if held then some { button := j, left := d.hold } else none) ∧
            (activates j = false ∨ d.hold ≠ 0 → (t.nav.get c).stack = n.stack) ∧
            (∀ m < d.buttons.length, states t m =
              if m = j then some (if held then .activating else .selected)
              else if n.selected = some m then some .normal
              else states s m) ∧
            ∀ b, d.buttons[j]? = some b → activates j = true → d.hold = 0 →
              (∀ o, o ≠ c → ∀ a, (s.nav.get o).activation = some a → 1 < a.left) →
              let u := actionByRule c b.action { s with
                nav := s.nav.set { n with selected := some j } c
                report := match b.notify with
                  | some code => s.report.enqueue s.engine.fc (.action (some p) j code)
                  | none => s.report }
              t.engine = u.engine ∧ t.seq = u.seq ∧ t.report = u.report ∧ t.nav.flags = u.nav.flags ∧
                (t.nav.get c).stack = (u.nav.get c).stack
    (∀ dir, (e.key, dir) ∈ [(Key.up, Direction.up), (.down, .down), (.left, .left), (.right, .right)] →
      handled (arrowByRule d n dir) fun j => (d.buttons[j]?.map Button.auto).getD false) ∧
    (e.key = .ok → handled n.selected fun _ => true) ∧
    (e.key = .number → handled ((List.range d.buttons.length).find? fun i =>
      n.offers i && (d.buttons[i]?.bind Button.number == some e.number.toNat)) fun _ => true) ∧
    (e.key = .back → (∀ o, o ≠ c → ∀ a, (s.nav.get o).activation = some a → 1 < a.left) →
      let insert (page : Option PageId) (restore : Option Nat) (stack : List (PageId × Option Nat)) (t : State) : Prop :=
        if s.engine.schedule.length < 8 then
          t.engine = { s.engine with schedule := s.engine.schedule ++
            [{ ctx := ctxOf c, page := page, time := none, trans := .cut, origin := .navigation, restore := restore,
               late := false }] } ∧ (t.nav.get c).stack = stack ∧ t.report = s.report
        else t.engine = s.engine ∧ (t.nav.get c).stack = n.stack ∧
          t.report = s.report.enqueue s.engine.fc (.scheduleFull (ctxOf c) page .navigation)
      ∃ t, exec .navFrameEnd s = .next t ∧ t.seq = s.seq ∧ (t.nav.get c).selected = n.selected ∧
        (t.nav.get c).activation = none ∧ (∀ m, states t m = states s m) ∧
        match n.stack.getLast? with
        | some top => insert (some top.1) top.2 n.stack.dropLast t
        | none => match c with
          | .menu => t.engine = s.engine ∧ (t.nav.get c).stack = n.stack ∧
              t.report = s.report.enqueue s.engine.fc (.stackEmpty .menu (some p))
          | .popup => insert none none n.stack t)) ∧
  ∀ (e : KeyEntry) (rest : List KeyEntry) (s : State), s.resetLow = false → s.nav.flagsChanged = false →
    s.nav.redefined = false → s.nav.keys = e :: rest → (∀ o a, (s.nav.get o).activation = some a → 1 < a.left) →
    let alike (t : State) (c : NavCtx) : Prop := (t.nav.get c).page = (s.nav.get c).page ∧
      (t.nav.get c).selected = (s.nav.get c).selected ∧
      (t.nav.get c).activation = (s.nav.get c).activation.map (fun a => { a with left := a.left - 1 }) ∧
      (t.nav.get c).buttons.map ButtonNav.state = (s.nav.get c).buttons.map ButtonNav.state
    let menuFocus : Prop := ∃ p, s.nav.menu.page = some p ∧ (s.engine.page p).cur.buttons ≠ []
    ∃ t, exec .navFrameEnd s = .next t ∧ t.nav.keys = rest ∧
      (e.key ≠ .popup → s.nav.popup.page ≠ none → s.nav.popup.activation ≠ none →
        (∀ c, alike t c ∧ (t.nav.get c).stack = (s.nav.get c).stack) ∧ t.engine = s.engine ∧ t.seq = s.seq ∧
          t.report = s.report) ∧
      (e.key ≠ .popup → s.nav.popup.page = none → menuFocus → s.nav.menu.activation ≠ none →
        (∀ c, alike t c ∧ (t.nav.get c).stack = (s.nav.get c).stack) ∧ t.engine = s.engine ∧ t.seq = s.seq ∧
          t.report = s.report) ∧
      (e.key = .popup → (∀ c, alike t c) ∧ t.seq = s.seq ∧ t.nav.menu.stack = s.nav.menu.stack ∧
        let page : Option (Option PageId) :=
          if s.nav.popup.page ≠ none then some none else s.engine.popupPage.map some
        match page with
        | none => t.engine = s.engine ∧ t.report = s.report ∧ t.nav.popup.stack = s.nav.popup.stack
        | some q =>
          if s.engine.schedule.length < 8 then
            t.engine = { s.engine with schedule := s.engine.schedule ++
              [{ ctx := .popup, page := q, time := none, trans := .cut, origin := .navigation, restore := none,
                 late := false }] } ∧ t.report = s.report ∧
              t.nav.popup.stack = if s.nav.popup.page ≠ none then [] else s.nav.popup.stack
          else t.engine = s.engine ∧ t.report = s.report.enqueue s.engine.fc (.scheduleFull .popup q .navigation) ∧
            t.nav.popup.stack = s.nav.popup.stack) ∧
      (e.key ≠ .popup → s.nav.popup.page = none → ¬menuFocus →
        (∀ c, alike t c ∧ (t.nav.get c).stack = (s.nav.get c).stack) ∧ t.engine = s.engine ∧
        (∀ k, (e.key, k) ∈ [(Key.right, Instr.slideNext []), (.left, .slidePrev [])] → Accepts s 1 →
          ∀ u, exec k s = .next u → t.seq = u.seq ∧ t.report = u.report) ∧
        (e.key = .ok → t.report = s.report ∧ t.seq = { s.seq with run := match s.seq.run with
          | .running => .held
          | .held => .running
          | r => r }) ∧
        (e.key ∈ [Key.up, .down, .back, .number] → t.seq = s.seq ∧ t.report = s.report))

/-- R134, R140, R141: ACTIVATION_EXPIRY in MENU or POPUP where the hold runs out (`endActivationByRule`). The button
returns to SELECTED, the activation is gone, ACTION is raised where the button has a notify code, and the action is
performed (`actionByRule`, which says R141 in the statement's own terms). An entry is inserted without T, and the stack
changes with it (a push keeps the last 8 entries); where the schedule holds 8 entries SCHEDULE-FULL is raised and the
stack stands (R83). SLIDES-START and SLIDES-STOP are triggers that count where the start or stop source is BUTTON (R148,
R151 to R153). SET-FLAGS that changes the word raises FLAGS-CHANGED, sets the mark and tells the sequencer (R117, R118,
R150). That the row alone does nothing before the hold runs out, or without an activation, is the model's choice (log
entry 6). The playhead of the SELECTED visual starts with its mark set, the model's own (log entries 8 and 30). That a
SET-FLAGS raises FLAGS-CHANGED before what the sequencer raises on it is the model's choice (log entry 29). -/
def Obligations.ActivationExecutes : Prop :=
  ∀ (c : NavCtx) (s : State), s.resetLow = false →
    ((s.nav.get c).activation = none → exec (.activationExpiry c) s = .next s) ∧
    ∀ a, (s.nav.get c).activation = some a →
      (1 < a.left → exec (.activationExpiry c) s = .next s) ∧
      (a.left ≤ 1 →
        exec (.activationExpiry c) s = .next (endActivationByRule c a.button s) ∧
        ∀ b, (shownDef s c).buttons[a.button]? = some b →
          let d := shownDef s c
          let n := s.nav.get c
          let n1 : NavState := { n with
            activation := none
            buttons := n.buttons.mapIdx fun m y => if m = a.button ∧ y.state ≠ .selected then
                { state := .selected, head := headByRule d b .selected true }
              else y }
          exec (.activationExpiry c) s = .next (actionByRule c b.action { s with
            nav := s.nav.set n1 c
            report := match b.notify with
              | some code => s.report.enqueue s.engine.fc (.action n.page a.button code)
              | none => s.report }))

/-- R126: PLAYHEAD_STEP in MENU or POPUP where a button's remaining hold runs out. Before the last entry the playhead
moves to the next entry with that entry's hold; at the last entry a LOOP returns to entry 0 with its hold and a ONCE
stays with a hold of 0. No other button and nothing else changes. That the row alone does nothing while the hold is
above 1, or is 0, is the model's choice (log entry 6). -/
def Obligations.PlayheadSteps : Prop :=
  ∀ (c : NavCtx) (i ix : Nat) (p : PageId) (b : Button) (x : ButtonNav) (h : Playhead) (a : Animation) (s : State),
    s.resetLow = false → (s.nav.get c).page = some p → (s.nav.get c).buttons[i]? = some x → x.head = some h →
    h.fresh = false → (s.engine.page p).cur.buttons[i]? = some b → b.visual x.state = .animation ix →
    (s.engine.page p).cur.animations[ix]? = some a →
    let hold (j : Nat) := (a.entries[j]?.map AnimEntry.hold).getD 0
    let next : Playhead :=
      if h.left ≠ 1 then h
      else if h.entry + 1 < a.entries.length then { h with entry := h.entry + 1, left := hold (h.entry + 1) }
      else match a.mode with
        | .loop => { h with entry := 0, left := hold 0 }
        | .once => { h with left := 0 }
    let n := s.nav.get c
    exec (.playheadStep c i) s = .next
      { s with nav := s.nav.set { n with buttons := n.buttons.set i { x with head := some next } } c }

/-- R127, R131, R140, R145 and the notices of R89: every step keeps the key queue and both page stacks within 8, the
activating button selected, a state for each button of the navigation page, each navigation page and the slide page
equal to the page its context presents, and the sequencer's flags copy equal to the flags word. -/
def Obligations.NavigationFollowsTheContexts : Prop :=
  ∀ s t : State, NavInv s → step s = .next t → NavInv t

/-! ### The slide sequencer -/

/-- R147: a valid Slide List in IDLE, ARMED or ENDED replaces list and configuration, clears the shown and placed
entries, and leaves ARMED or IDLE by its arm flag; in a running state it is refused with SLIDE-BUSY. Every field of the
configuration and of the entries stands at its offset, and N = 0 is stored as CUT (11.3, 11.8: `configAt` and
`slidesOf`, which read a body in the statement's own terms). A report's FC is the engine's counter (R167, log entry
31). -/
def Obligations.SlideListTaken : Prop :=
  ∀ (b : List Byte) (s : State), SlideListFits b → TakesContent s b.length →
    exec (.slideList b) s = .next
      (if s.seq.run = .running ∨ s.seq.run = .held ∨ s.seq.run = .draining then
         (visited s b.length).raise .slideBusyList
       else
         { visited s b.length with seq := { s.seq with
             list := slidesOf b, config := configAt b 1, shown := none, placed := none,
             run := if num8 b 17 = 1 then .armed else .idle } })

/-- R149: CONFIGURE, with the configuration read from its offsets (R148, 11.8: `configAt`), ARM and DISARM by the run
state. R152, R160: STOP, PAUSE and RESUME by the run state. A report's FC is the engine's counter (R167, log entry
31). -/
def Obligations.SlideControlByRunState : Prop :=
  (∀ s : State, Accepts s 1 →
     (∀ r : List Byte, r.length = 16 → ConfigFits r 0 → Accepts s 17 →
       exec (.configure r) s = .next
         (if s.seq.run = .idle ∨ s.seq.run = .ended then
            { visited s 17 with seq := { s.seq with config := configAt r 0 } }
          else (visited s 17).raise (.slideBusyControl .configure))) ∧
     exec (.arm []) s = .next
       (if s.seq.run = .running ∨ s.seq.run = .held ∨ s.seq.run = .draining then
          (visited s 1).raise (.slideBusyControl .arm)
        else { visited s 1 with seq := { s.seq with run := .armed } }) ∧
     exec (.disarm []) s = .next
       (if s.seq.run = .running ∨ s.seq.run = .held ∨ s.seq.run = .draining then
          { visited s 1 with
            seq := { s.seq with run := .idle, target := none, dwell := .absent, drain := 0 }
            report := s.report.enqueue s.engine.fc (.ended .stop s.seq.shown) }
        else { visited s 1 with seq := { s.seq with run := .idle } })) ∧
  (∀ s : State, Accepts s 1 →
     exec (.slideStop []) s = .next
       (if s.seq.run = .running ∨ s.seq.run = .held then
          if s.seq.config.drainCount = 0 then
            { visited s 1 with
              seq := { s.seq with run := .ended, target := none, dwell := .absent, drain := 0 }
              report := s.report.enqueue s.engine.fc (.ended .stop s.seq.shown) }
          else { visited s 1 with seq := { s.seq with run := .draining, drain := s.seq.config.drainCount } }
        else visited s 1) ∧
     exec (.slidePause []) s = .next
       (if s.seq.run = .running then { visited s 1 with seq := { s.seq with run := .held } } else visited s 1) ∧
     exec (.slideResume []) s = .next
       (if s.seq.run = .held then { visited s 1 with seq := { s.seq with run := .running } } else visited s 1))

/-- R151, R153: START. It is ignored in IDLE and the running states, and in ENDED with end mode ONCE. In ARMED, and in
ENDED with REPEAT or LOOP, the start scan from entry 0 passes over entries whose condition is false, and with
ENTRY-SKIPPED those whose condition is true and whose page is undefined; the first eligible entry becomes the target and
STARTED is raised; with none, EMPTY-RUN and ENDED (EMPTY) are raised (`startByRule`, which says these rules in the
statement's own terms). Two cases are spelled out: every entry before the eligible one passed over for a false
condition, and no entry's condition true. A report's FC is the engine's counter (R167, log entry 31). -/
def Obligations.StartTriggerActs : Prop :=
  ∀ s : State, Accepts s 1 →
    let u := startByRule (fun p => (s.engine.page p).defined) s.engine.fc .command 0 s.seq s.report
    exec (.slideStart []) s = .next { visited s 1 with seq := u.1, report := u.2 } ∧
    (s.seq.run = .idle ∨ s.seq.run = .running ∨ s.seq.run = .held ∨ s.seq.run = .draining ∨
        (s.seq.run = .ended ∧ s.seq.config.endMode = .once) →
      exec (.slideStart []) s = .next (visited s 1)) ∧
    (s.seq.run = .armed ∨ (s.seq.run = .ended ∧ s.seq.config.endMode ≠ .once) →
      (∀ (i : Nat) (e : SlideEntry), s.seq.list[i]? = some e → e.cond.holds s.seq.flagsCopy = true →
        (s.engine.page e.page).defined = true →
        (∀ j < i, ∀ x, s.seq.list[j]? = some x → x.cond.holds s.seq.flagsCopy = false) →
        exec (.slideStart []) s = .next
          { visited s 1 with
            seq := { s.seq with
              run := .running, target := some { entry := i, ready := false, wait := 0 }, dwell := .absent, drain := 0 }
            report := s.report.enqueue s.engine.fc (.started i .command) }) ∧
      ((∀ x ∈ s.seq.list, x.cond.holds s.seq.flagsCopy = false) →
        exec (.slideStart []) s = .next
          { visited s 1 with
            seq := { s.seq with run := .ended, target := none, dwell := .absent, drain := 0 }
            report := (s.report.enqueue s.engine.fc (.emptyRun (some 0) s.seq.list.length)).enqueue s.engine.fc
              (.ended .empty s.seq.shown) }))

/-- R153, R154, R160: NEXT is an advance from the reference entry at once, and in DRAINING a counted one: it passes over
entries whose condition is false, and with ENTRY-SKIPPED those whose page is undefined; past the end it goes on from
entry 0 in LOOP, up to the reference entry itself, and else ends the run with END; a LOOP advance that finds nothing
raises EMPTY-RUN and ends it with EMPTY; with the drain run out it ends with DRAINED (`advanceByRule`, which says these
rules in the statement's own terms). PREV examines the entries before the reference entry, descending, and in LOOP goes
on from the last entry down to the one after it; the first eligible entry becomes the target, and with none no more is
changed; without a reference entry it is ignored (the model's choice, log entry 16, as is the reference entry that
EMPTY-RUN then carries). PREV is ignored in DRAINING, and both outside the running states. Spelled out: a reference
entry r whose neighbour in the list is eligible. A report's FC is the engine's counter (R167, log entry 31). -/
def Obligations.NextAndPrev : Prop :=
  ∀ s : State, Accepts s 1 →
    (let defined (p : PageId) : Bool := (s.engine.page p).defined
     let u := advanceByRule defined s.engine.fc (referenceByRule s.seq) s.seq s.report
     (s.seq.run = .running ∨ s.seq.run = .held ∨ s.seq.run = .draining →
       exec (.slideNext []) s = .next { visited s 1 with seq := u.1, report := u.2 }) ∧
     (s.seq.run = .running ∨ s.seq.run = .held →
       let w := backByRule defined s.engine.fc s.seq s.report
       exec (.slidePrev []) s = .next { visited s 1 with seq := w.1, report := w.2 })) ∧
    (s.seq.run = .idle ∨ s.seq.run = .armed ∨ s.seq.run = .ended →
      exec (.slideNext []) s = .next (visited s 1) ∧ exec (.slidePrev []) s = .next (visited s 1)) ∧
    (s.seq.run = .draining → exec (.slidePrev []) s = .next (visited s 1)) ∧
    (s.seq.run = .draining → s.seq.drain = 0 → exec (.slideNext []) s = .next
      { visited s 1 with
        seq := { s.seq with run := .ended, target := none, dwell := .absent, drain := 0 }
        report := s.report.enqueue s.engine.fc (.ended .drained s.seq.shown) }) ∧
    ∀ (r : Nat) (e : SlideEntry), s.seq.reference = some r → e.cond.holds s.seq.flagsCopy = true →
      (s.engine.page e.page).defined = true →
      (s.seq.list[r + 1]? = some e →
        (s.seq.run = .running ∨ s.seq.run = .held → exec (.slideNext []) s = .next
          { visited s 1 with seq := { s.seq with
              target := some { entry := r + 1, ready := false, wait := 0 }, dwell := .absent } }) ∧
        (s.seq.run = .draining → 0 < s.seq.drain → exec (.slideNext []) s = .next
          { visited s 1 with seq := { s.seq with
              target := some { entry := r + 1, ready := false, wait := 0 }, dwell := .absent,
              drain := s.seq.drain - 1 } })) ∧
      (1 ≤ r → r ≤ s.seq.list.length → s.seq.list[r - 1]? = some e →
        s.seq.run = .running ∨ s.seq.run = .held → exec (.slidePrev []) s = .next
          { visited s 1 with seq := { s.seq with
              target := some { entry := r - 1, ready := false, wait := 0 }, dwell := .absent } })

/-- R155, R156: the sequencer's frame end with a target and no dwell. A READYING target that is not ready waits one
frame more, and at its 300th wait raises LATE-SLIDE and goes on as READY; one that is ready, or is READY already, is
inserted as (SLIDE, page, no T, transition, SEQUENCER) where the schedule has room and becomes the placed entry; on a
full schedule it stays READY and SCHEDULE-FULL is raised. R159, R161: the frame end with no target and a COUNTING dwell.
In HELD the count stands; in RUNNING and DRAINING it falls by 1. Where it runs out, an advance is made (`advanceByRule`,
which says R153, R154 and R162 in the statement's own terms): it skips undefined pages with ENTRY-SKIPPED, goes round in
LOOP, and can end the run; a target that it finds is tested and placed at this same frame end. R150, R161: in ARMED with
a TIME start source whose T is due the run starts (`startByRule`), and its target is tested first at the next frame end.
With nothing to count, to test or to start, nothing changes. Each report carries its place in the order of the steps.
The model's own `skew` is set level, as at every frame end (log entry 5). An advance without a reference entry, and what
EMPTY-RUN then carries, is the model's reading (log entry 16). -/
def Obligations.SequencerFrameEndActs : Prop :=
  ∀ s : State, s.resetLow = false →
    let ready (p : PageId) : Bool := (s.engine.page p).cur.placements.all fun x => match s.store.slot x.obj with
      | .ready _ | .updating _ _ | .swapping _ _ => true
      | _ => false
    let placing (q : Sequencer) (r : ReportUnit) (t : Target) (e : SlideEntry) : State :=
      if s.engine.schedule.length < 8 then
        { s with
          engine := { s.engine with schedule := s.engine.schedule ++
            [{ ctx := .slide, page := some e.page, time := none, trans := e.trans, origin := .sequencer,
               restore := none, late := false }] }
          seq := { q with target := none, placed := some { entry := t.entry, page := e.page } }
          report := r
          skew := .level }
      else
        { s with
          seq := { q with target := some { t with ready := true } }
          report := r.enqueue s.engine.fc (.scheduleFull .slide (some e.page) .sequencer)
          skew := .level }
    let defined (p : PageId) : Bool := (s.engine.page p).defined
    (∀ (t : Target) (e : SlideEntry), s.seq.run.isRunning = true → s.seq.dwell = .absent → s.seq.target = some t →
      s.seq.list[t.entry]? = some e →
      (t.ready = false → ready e.page = false → t.wait + 1 < 300 → exec .sequencerFrameEnd s = .next
        { s with seq := { s.seq with target := some { t with wait := t.wait + 1 } }, skew := .level }) ∧
      (t.ready = false → ready e.page = false → 300 ≤ t.wait + 1 → exec .sequencerFrameEnd s = .next
        (placing s.seq (s.report.enqueue s.engine.fc (.lateSlide t.entry e.page)) { t with wait := 300 } e)) ∧
      (t.ready = true ∨ ready e.page = true → exec .sequencerFrameEnd s = .next (placing s.seq s.report t e))) ∧
    (∀ n : Nat, s.seq.target = none → s.seq.dwell = .counting n →
      (s.seq.run = .held → exec .sequencerFrameEnd s = .next { s with skew := .level }) ∧
      (s.seq.run = .running ∨ s.seq.run = .draining → 1 < n → exec .sequencerFrameEnd s = .next
        { s with seq := { s.seq with dwell := .counting (n - 1) }, skew := .level }) ∧
      (n ≤ 1 → s.seq.run = .running ∨ s.seq.run = .draining →
        let u := advanceByRule defined s.engine.fc (referenceByRule s.seq) { s.seq with dwell := .absent } s.report
        (u.1.target = none → exec .sequencerFrameEnd s = .next { s with seq := u.1, report := u.2, skew := .level }) ∧
        ∀ t e, u.1.target = some t → s.seq.list[t.entry]? = some e → exec .sequencerFrameEnd s = .next
          (if ready e.page then placing u.1 u.2 { t with ready := true } e
           else { s with seq := { u.1 with target := some { t with wait := 1 } }, report := u.2, skew := .level }))) ∧
    (s.seq.target = none → (∀ n, s.seq.dwell = .counting n → s.seq.run ≠ .running ∧ s.seq.run ≠ .draining) →
      let starts : Prop := s.seq.run = .armed ∧ s.seq.config.startKind = .time ∧
        (s.engine.fc - s.seq.config.startTime).toNat < 2 ^ 31
      let u := startByRule defined s.engine.fc .time 0 s.seq s.report
      (starts → exec .sequencerFrameEnd s = .next { s with seq := u.1, report := u.2, skew := .level }) ∧
      (¬starts → exec .sequencerFrameEnd s = .next { s with skew := .level }))

/-- R155: SLIDE_READY and LATE_SLIDE on a READYING target. A ready one moves to stage READY; one that is not ready and
whose wait count reaches 300 raises LATE-SLIDE and moves to stage READY. That each row alone does nothing otherwise is
the model's choice (log entry 6). R159: DWELL_EXPIRY in RUNNING or DRAINING where the count runs out is an advance
(`advanceByRule`); spelled out for an eligible entry after the shown one, which becomes the target. A count above 1,
HELD, and a STILL dwell are left as they are, which for the row alone is the model's choice (log entry 6). R150:
TIME_TRIGGER in ARMED with a TIME start source whose T is due starts the run (`startByRule`): with entry 0 eligible it
is the target and STARTED (0, TIME) is raised. In other run states, with another source, or before T is due, nothing
happens. An advance without a reference entry, and what EMPTY-RUN then carries, is the model's reading (log entry
16). -/
def Obligations.SequencerPartSteps : Prop :=
  (∀ (t : Target) (e : SlideEntry) (s : State), s.resetLow = false → s.seq.target = some t → t.ready = false →
     s.seq.list[t.entry]? = some e →
     let ready := (s.engine.page e.page).cur.placements.all fun x => match s.store.slot x.obj with
       | .ready _ | .updating _ _ | .swapping _ _ => true
       | _ => false
     exec .slideReady s = .next
       (if ready then { s with seq := { s.seq with target := some { t with ready := true } } } else s) ∧
     exec .lateSlide s = .next
       (if ready = false ∧ 300 ≤ t.wait + 1 then
          { s with
            seq := { s.seq with target := some { t with ready := true, wait := 300 } }
            report := s.report.enqueue s.engine.fc (.lateSlide t.entry e.page) }
        else s)) ∧
  (∀ (n r : Nat) (s : State), s.resetLow = false →
     (s.seq.run = .running ∨ s.seq.run = .draining → s.seq.dwell = .counting n → n ≤ 1 →
       let u := advanceByRule (fun p => (s.engine.page p).defined) s.engine.fc (referenceByRule s.seq)
         { s.seq with dwell := .absent } s.report
       exec .dwellExpiry s = .next { s with seq := u.1, report := u.2 }) ∧
     (s.seq.run = .running → s.seq.dwell = .counting n → n ≤ 1 → s.seq.target = none → s.seq.placed = none →
       s.seq.shown = some r → ∀ e, s.seq.list[r + 1]? = some e → e.cond.holds s.seq.flagsCopy = true →
       (s.engine.page e.page).defined = true → exec .dwellExpiry s = .next
         { s with seq := { s.seq with
             target := some { entry := r + 1, ready := false, wait := 0 }, dwell := .absent } }) ∧
     (s.seq.run = .held ∨ s.seq.dwell = .still ∨ (s.seq.dwell = .counting n ∧ 1 < n) →
       exec .dwellExpiry s = .next s)) ∧
  (∀ s : State, s.resetLow = false →
     let due := s.seq.run = .armed ∧ s.seq.config.startKind = .time ∧
       (s.engine.fc - s.seq.config.startTime).toNat < 2 ^ 31
     (¬due → exec .timeTrigger s = .next s) ∧
     (due →
       let u := startByRule (fun p => (s.engine.page p).defined) s.engine.fc .time 0 s.seq s.report
       exec .timeTrigger s = .next { s with seq := u.1, report := u.2 }) ∧
     (due → ∀ e, s.seq.list[0]? = some e → e.cond.holds s.seq.flagsCopy = true →
       (s.engine.page e.page).defined = true → exec .timeTrigger s = .next
         { s with
           seq := { s.seq with
             run := .running, target := some { entry := 0, ready := false, wait := 0 }, dwell := .absent, drain := 0 }
           report := s.report.enqueue s.engine.fc (.started 0 .time) }))

/-- R145, R146, R148: every step keeps the sequencer's laws: a target only in a running state, the dwell only there and
only without a target, every entry it holds within the list, and the ranges of its counts: a COUNTING dwell of 1–65535,
a wait count of at most 300, a drain of at most 63, durations of at most 65535, and entries that hold no transition of
length 0. -/
def Obligations.SequencerLawsKept : Prop := ∀ s t : State, SeqInv s → step s = .next t → SeqInv t

/-! ### Reports, status and restart -/

/-- R168, R170: a report that finds fewer than 16 in the queue joins it with the unit's lost flag, which is then clear,
and ATTN is tested; one that finds 16 is lost, and the flag is set. R167, R170, 11.9, 11.10: every report carries the
class of its kind, with the lost flag in bit 7, its kind code, its FC and the fields of its kind, each at its place
(`reportRow`, the table of 11.10 in the statement's own terms); a report is enabled by the mask bit of its class. R167,
R169: every report is its length byte L and L bytes after it, L lies in 8–20, and its first byte is L. R169: a read
strobe. On an empty queue the byte is 0x00; otherwise it is the byte at the read position of the head report, which
leaves, with ATTN tested, as its last byte is read. Nothing else changes. -/
def Obligations.ReportPort : Prop :=
  (∀ (u : ReportUnit) (fc : FrameCount) (b : ReportBody), u.enqueue fc b =
    if u.queue.length < 16 then
      let queue := u.queue ++ [{ lost := u.lost, fc := fc, body := b }]
      { u with queue := queue, lost := false, attn := queue.any (enabledIn u.mask) }
    else { u with lost := true }) ∧
  (∀ (r : Report) (mask : Byte), r.bytes = reportBytes r ∧ r.len = 6 + (reportRow r.body).2.2.length ∧
    r.body.cls.code = (reportRow r.body).1 ∧
    (enabledIn mask r = true ↔ mask.toNat / 2 ^ (reportRow r.body).1 % 2 = 1)) ∧
  (∀ r : Report, r.bytes.length = r.len + 1 ∧ 8 ≤ r.len ∧ r.len ≤ 20 ∧ r.bytes.head? = some (BitVec.ofNat 8 r.len)) ∧
  (∀ s : State, s.resetLow = false →
     (s.report.queue = [] → exec .readStrobe s = .next { s with report := { s.report with port := 0 } }) ∧
     ∀ r rest b, s.report.queue = r :: rest → r.bytes[s.report.readPos]? = some b →
       exec .readStrobe s = .next { s with report :=
         if s.report.readPos = r.len then
           { s.report with
             queue := rest, readPos := 0, port := b, attn := rest.any (enabledIn s.report.mask) }
         else { s.report with readPos := s.report.readPos + 1, port := b } })

/-- R172: a Status Request raises both parts of STATUS, part 1 first, with the state of the moment. A report's FC is the
engine's counter (R167, log entry 31). -/
def Obligations.StatusReportsTheState : Prop :=
  ∀ s : State, Accepts s 0 →
    let slots := ((List.finRange 512).filter fun k => match s.store.slot k with
      | .ready _ | .updating _ _ | .swapping _ _ | .dropping _ => true
      | _ => false).length
    let presented (c : Ctx) : Option PageId := match s.engine.contexts.get c with
      | .showing p => some p
      | .transition i _ _ _ _ => i
      | .empty => none
    let patch := match s.palette.patch with
      | .closed => 0
      | .collecting _ _ => 1
      | .scheduled _ _ _ => 2
    exec (.statusRequest []) s = .next
      { visited s 0 with report :=
        (s.report.enqueue s.engine.fc (.statusOne
          { free := s.store.free.length, slots := slots, setId := s.engine.setId, slide := presented .slide,
            menu := presented .menu, popup := presented .popup, patch := patch })).enqueue s.engine.fc (.statusTwo
          { run := s.seq.run, shown := s.seq.shown, flags := s.nav.flags, segments := s.port.segTotal,
            bytes := s.port.byteTotal, width := s.mixer.width, height := s.mixer.height }) }

/-- R17, R19, R173: a valid Restart leaves every block as State.reset has it, with HOLD released and RESTART-DONE
(COMMAND) alone in the queue; object memory is kept, and so are the bytes last seen on the two output ports (log entry
4); the model's own `skew` is level, as State.reset has it (log entry 5). R18, R174, R175: RESET_N asserted resets every
block at once, asserts HOLD and leaves the report queue empty with ATTN released; released again, it releases HOLD and
leaves RESTART-DONE (PIN) alone in the queue, with ATTN asserted. A release with the pin high already does nothing (log
entry 10). Object memory is kept (R19). -/
def Obligations.RestartAndResetPin : Prop :=
  (∀ s : State, Accepts s 0 →
     exec (.restart []) s = .next
       { State.reset with
         pending := s.pending, mem := s.mem
         mixer := { State.reset.mixer with videoOut := s.mixer.videoOut }
         report := { queue := [{ lost := false, fc := 0, body := .restartDone .command 0x37 }], readPos := 0, lost := false,
                     mask := 0x37, attn := true, port := s.report.port } }) ∧
  (∀ s : State, ∃ t, exec .resetNAsserted s = .next t ∧ t.resetLow = true ∧ t.port = { State.reset.port with hold := true } ∧
     t.decoder = .idle ∧ t.store = State.reset.store ∧ t.palette = State.reset.palette ∧
     t.engine = State.reset.engine ∧ t.nav = State.reset.nav ∧ t.seq = State.reset.seq ∧
     t.mixer = { State.reset.mixer with videoOut := s.mixer.videoOut } ∧ t.mem = s.mem ∧
     t.report = { queue := [], readPos := 0, lost := false, mask := 0x37, attn := false, port := s.report.port } ∧
     (s.resetLow = false → exec .resetNReleased s = .next s) ∧
     exec .resetNReleased t = .next
       { t with
         resetLow := false, port := State.reset.port
         report := { queue := [{ lost := false, fc := 0, body := .restartDone .pin 0x37 }], readPos := 0, lost := false,
                     mask := 0x37, attn := true, port := s.report.port } })

/-- R166, R169, R170, R174: every step keeps at most 16 reports in the queue, ATTN asserted exactly while an enabled
report waits, the read position within the head report, and an empty queue while RESET_N is low. -/
def Obligations.ReportLawsKept : Prop := ∀ s t : State, ReportInv s → step s = .next t → ReportInv t
end

