-- ==== Sys2Proof/Laws/State.lean ====
section
/-! SUPPORT. One lemma per field per update of the state: what each setter and each raised report leaves in every field. -/

namespace Sys2Proof.Machine

open Sys2Proof

variable (s : State)

/-! ### setPort -/

@[simp] theorem State.setPort_pending (x : Port) : (s.setPort x).pending = s.pending := rfl
@[simp] theorem State.setPort_resetLow (x : Port) : (s.setPort x).resetLow = s.resetLow := rfl
@[simp] theorem State.setPort_port (x : Port) : (s.setPort x).port = x := rfl
@[simp] theorem State.setPort_decoder (x : Port) : (s.setPort x).decoder = s.decoder := rfl
@[simp] theorem State.setPort_store (x : Port) : (s.setPort x).store = s.store := rfl
@[simp] theorem State.setPort_mem (x : Port) : (s.setPort x).mem = s.mem := rfl
@[simp] theorem State.setPort_palette (x : Port) : (s.setPort x).palette = s.palette := rfl
@[simp] theorem State.setPort_engine (x : Port) : (s.setPort x).engine = s.engine := rfl
@[simp] theorem State.setPort_mixer (x : Port) : (s.setPort x).mixer = s.mixer := rfl
@[simp] theorem State.setPort_nav (x : Port) : (s.setPort x).nav = s.nav := rfl
@[simp] theorem State.setPort_seq (x : Port) : (s.setPort x).seq = s.seq := rfl
@[simp] theorem State.setPort_report (x : Port) : (s.setPort x).report = s.report := rfl
@[simp] theorem State.setPort_skew (x : Port) : (s.setPort x).skew = s.skew := rfl

/-! ### setDecoder -/

@[simp] theorem State.setDecoder_pending (x : Decoder) : (s.setDecoder x).pending = s.pending := rfl
@[simp] theorem State.setDecoder_resetLow (x : Decoder) : (s.setDecoder x).resetLow = s.resetLow := rfl
@[simp] theorem State.setDecoder_port (x : Decoder) : (s.setDecoder x).port = s.port := rfl
@[simp] theorem State.setDecoder_decoder (x : Decoder) : (s.setDecoder x).decoder = x := rfl
@[simp] theorem State.setDecoder_store (x : Decoder) : (s.setDecoder x).store = s.store := rfl
@[simp] theorem State.setDecoder_mem (x : Decoder) : (s.setDecoder x).mem = s.mem := rfl
@[simp] theorem State.setDecoder_palette (x : Decoder) : (s.setDecoder x).palette = s.palette := rfl
@[simp] theorem State.setDecoder_engine (x : Decoder) : (s.setDecoder x).engine = s.engine := rfl
@[simp] theorem State.setDecoder_mixer (x : Decoder) : (s.setDecoder x).mixer = s.mixer := rfl
@[simp] theorem State.setDecoder_nav (x : Decoder) : (s.setDecoder x).nav = s.nav := rfl
@[simp] theorem State.setDecoder_seq (x : Decoder) : (s.setDecoder x).seq = s.seq := rfl
@[simp] theorem State.setDecoder_report (x : Decoder) : (s.setDecoder x).report = s.report := rfl
@[simp] theorem State.setDecoder_skew (x : Decoder) : (s.setDecoder x).skew = s.skew := rfl

/-! ### setStore -/

@[simp] theorem State.setStore_pending (x : Store) : (s.setStore x).pending = s.pending := rfl
@[simp] theorem State.setStore_resetLow (x : Store) : (s.setStore x).resetLow = s.resetLow := rfl
@[simp] theorem State.setStore_port (x : Store) : (s.setStore x).port = s.port := rfl
@[simp] theorem State.setStore_decoder (x : Store) : (s.setStore x).decoder = s.decoder := rfl
@[simp] theorem State.setStore_store (x : Store) : (s.setStore x).store = x := rfl
@[simp] theorem State.setStore_mem (x : Store) : (s.setStore x).mem = s.mem := rfl
@[simp] theorem State.setStore_palette (x : Store) : (s.setStore x).palette = s.palette := rfl
@[simp] theorem State.setStore_engine (x : Store) : (s.setStore x).engine = s.engine := rfl
@[simp] theorem State.setStore_mixer (x : Store) : (s.setStore x).mixer = s.mixer := rfl
@[simp] theorem State.setStore_nav (x : Store) : (s.setStore x).nav = s.nav := rfl
@[simp] theorem State.setStore_seq (x : Store) : (s.setStore x).seq = s.seq := rfl
@[simp] theorem State.setStore_report (x : Store) : (s.setStore x).report = s.report := rfl
@[simp] theorem State.setStore_skew (x : Store) : (s.setStore x).skew = s.skew := rfl

/-! ### setMem -/

@[simp] theorem State.setMem_pending (x : Memory) : (s.setMem x).pending = s.pending := rfl
@[simp] theorem State.setMem_resetLow (x : Memory) : (s.setMem x).resetLow = s.resetLow := rfl
@[simp] theorem State.setMem_port (x : Memory) : (s.setMem x).port = s.port := rfl
@[simp] theorem State.setMem_decoder (x : Memory) : (s.setMem x).decoder = s.decoder := rfl
@[simp] theorem State.setMem_store (x : Memory) : (s.setMem x).store = s.store := rfl
@[simp] theorem State.setMem_mem (x : Memory) : (s.setMem x).mem = x := rfl
@[simp] theorem State.setMem_palette (x : Memory) : (s.setMem x).palette = s.palette := rfl
@[simp] theorem State.setMem_engine (x : Memory) : (s.setMem x).engine = s.engine := rfl
@[simp] theorem State.setMem_mixer (x : Memory) : (s.setMem x).mixer = s.mixer := rfl
@[simp] theorem State.setMem_nav (x : Memory) : (s.setMem x).nav = s.nav := rfl
@[simp] theorem State.setMem_seq (x : Memory) : (s.setMem x).seq = s.seq := rfl
@[simp] theorem State.setMem_report (x : Memory) : (s.setMem x).report = s.report := rfl
@[simp] theorem State.setMem_skew (x : Memory) : (s.setMem x).skew = s.skew := rfl

/-! ### setPalette -/

@[simp] theorem State.setPalette_pending (x : PaletteUnit) : (s.setPalette x).pending = s.pending := rfl
@[simp] theorem State.setPalette_resetLow (x : PaletteUnit) : (s.setPalette x).resetLow = s.resetLow := rfl
@[simp] theorem State.setPalette_port (x : PaletteUnit) : (s.setPalette x).port = s.port := rfl
@[simp] theorem State.setPalette_decoder (x : PaletteUnit) : (s.setPalette x).decoder = s.decoder := rfl
@[simp] theorem State.setPalette_store (x : PaletteUnit) : (s.setPalette x).store = s.store := rfl
@[simp] theorem State.setPalette_mem (x : PaletteUnit) : (s.setPalette x).mem = s.mem := rfl
@[simp] theorem State.setPalette_palette (x : PaletteUnit) : (s.setPalette x).palette = x := rfl
@[simp] theorem State.setPalette_engine (x : PaletteUnit) : (s.setPalette x).engine = s.engine := rfl
@[simp] theorem State.setPalette_mixer (x : PaletteUnit) : (s.setPalette x).mixer = s.mixer := rfl
@[simp] theorem State.setPalette_nav (x : PaletteUnit) : (s.setPalette x).nav = s.nav := rfl
@[simp] theorem State.setPalette_seq (x : PaletteUnit) : (s.setPalette x).seq = s.seq := rfl
@[simp] theorem State.setPalette_report (x : PaletteUnit) : (s.setPalette x).report = s.report := rfl
@[simp] theorem State.setPalette_skew (x : PaletteUnit) : (s.setPalette x).skew = s.skew := rfl

/-! ### setEngine -/

@[simp] theorem State.setEngine_pending (x : Engine) : (s.setEngine x).pending = s.pending := rfl
@[simp] theorem State.setEngine_resetLow (x : Engine) : (s.setEngine x).resetLow = s.resetLow := rfl
@[simp] theorem State.setEngine_port (x : Engine) : (s.setEngine x).port = s.port := rfl
@[simp] theorem State.setEngine_decoder (x : Engine) : (s.setEngine x).decoder = s.decoder := rfl
@[simp] theorem State.setEngine_store (x : Engine) : (s.setEngine x).store = s.store := rfl
@[simp] theorem State.setEngine_mem (x : Engine) : (s.setEngine x).mem = s.mem := rfl
@[simp] theorem State.setEngine_palette (x : Engine) : (s.setEngine x).palette = s.palette := rfl
@[simp] theorem State.setEngine_engine (x : Engine) : (s.setEngine x).engine = x := rfl
@[simp] theorem State.setEngine_mixer (x : Engine) : (s.setEngine x).mixer = s.mixer := rfl
@[simp] theorem State.setEngine_nav (x : Engine) : (s.setEngine x).nav = s.nav := rfl
@[simp] theorem State.setEngine_seq (x : Engine) : (s.setEngine x).seq = s.seq := rfl
@[simp] theorem State.setEngine_report (x : Engine) : (s.setEngine x).report = s.report := rfl
@[simp] theorem State.setEngine_skew (x : Engine) : (s.setEngine x).skew = s.skew := rfl

/-! ### setMixer -/

@[simp] theorem State.setMixer_pending (x : Mixer) : (s.setMixer x).pending = s.pending := rfl
@[simp] theorem State.setMixer_resetLow (x : Mixer) : (s.setMixer x).resetLow = s.resetLow := rfl
@[simp] theorem State.setMixer_port (x : Mixer) : (s.setMixer x).port = s.port := rfl
@[simp] theorem State.setMixer_decoder (x : Mixer) : (s.setMixer x).decoder = s.decoder := rfl
@[simp] theorem State.setMixer_store (x : Mixer) : (s.setMixer x).store = s.store := rfl
@[simp] theorem State.setMixer_mem (x : Mixer) : (s.setMixer x).mem = s.mem := rfl
@[simp] theorem State.setMixer_palette (x : Mixer) : (s.setMixer x).palette = s.palette := rfl
@[simp] theorem State.setMixer_engine (x : Mixer) : (s.setMixer x).engine = s.engine := rfl
@[simp] theorem State.setMixer_mixer (x : Mixer) : (s.setMixer x).mixer = x := rfl
@[simp] theorem State.setMixer_nav (x : Mixer) : (s.setMixer x).nav = s.nav := rfl
@[simp] theorem State.setMixer_seq (x : Mixer) : (s.setMixer x).seq = s.seq := rfl
@[simp] theorem State.setMixer_report (x : Mixer) : (s.setMixer x).report = s.report := rfl
@[simp] theorem State.setMixer_skew (x : Mixer) : (s.setMixer x).skew = s.skew := rfl

/-! ### setNav -/

@[simp] theorem State.setNav_pending (x : Nav) : (s.setNav x).pending = s.pending := rfl
@[simp] theorem State.setNav_resetLow (x : Nav) : (s.setNav x).resetLow = s.resetLow := rfl
@[simp] theorem State.setNav_port (x : Nav) : (s.setNav x).port = s.port := rfl
@[simp] theorem State.setNav_decoder (x : Nav) : (s.setNav x).decoder = s.decoder := rfl
@[simp] theorem State.setNav_store (x : Nav) : (s.setNav x).store = s.store := rfl
@[simp] theorem State.setNav_mem (x : Nav) : (s.setNav x).mem = s.mem := rfl
@[simp] theorem State.setNav_palette (x : Nav) : (s.setNav x).palette = s.palette := rfl
@[simp] theorem State.setNav_engine (x : Nav) : (s.setNav x).engine = s.engine := rfl
@[simp] theorem State.setNav_mixer (x : Nav) : (s.setNav x).mixer = s.mixer := rfl
@[simp] theorem State.setNav_nav (x : Nav) : (s.setNav x).nav = x := rfl
@[simp] theorem State.setNav_seq (x : Nav) : (s.setNav x).seq = s.seq := rfl
@[simp] theorem State.setNav_report (x : Nav) : (s.setNav x).report = s.report := rfl
@[simp] theorem State.setNav_skew (x : Nav) : (s.setNav x).skew = s.skew := rfl

/-! ### setSeq -/

@[simp] theorem State.setSeq_pending (x : Sequencer) : (s.setSeq x).pending = s.pending := rfl
@[simp] theorem State.setSeq_resetLow (x : Sequencer) : (s.setSeq x).resetLow = s.resetLow := rfl
@[simp] theorem State.setSeq_port (x : Sequencer) : (s.setSeq x).port = s.port := rfl
@[simp] theorem State.setSeq_decoder (x : Sequencer) : (s.setSeq x).decoder = s.decoder := rfl
@[simp] theorem State.setSeq_store (x : Sequencer) : (s.setSeq x).store = s.store := rfl
@[simp] theorem State.setSeq_mem (x : Sequencer) : (s.setSeq x).mem = s.mem := rfl
@[simp] theorem State.setSeq_palette (x : Sequencer) : (s.setSeq x).palette = s.palette := rfl
@[simp] theorem State.setSeq_engine (x : Sequencer) : (s.setSeq x).engine = s.engine := rfl
@[simp] theorem State.setSeq_mixer (x : Sequencer) : (s.setSeq x).mixer = s.mixer := rfl
@[simp] theorem State.setSeq_nav (x : Sequencer) : (s.setSeq x).nav = s.nav := rfl
@[simp] theorem State.setSeq_seq (x : Sequencer) : (s.setSeq x).seq = x := rfl
@[simp] theorem State.setSeq_report (x : Sequencer) : (s.setSeq x).report = s.report := rfl
@[simp] theorem State.setSeq_skew (x : Sequencer) : (s.setSeq x).skew = s.skew := rfl

/-! ### setReport -/

@[simp] theorem State.setReport_pending (x : ReportUnit) : (s.setReport x).pending = s.pending := rfl
@[simp] theorem State.setReport_resetLow (x : ReportUnit) : (s.setReport x).resetLow = s.resetLow := rfl
@[simp] theorem State.setReport_port (x : ReportUnit) : (s.setReport x).port = s.port := rfl
@[simp] theorem State.setReport_decoder (x : ReportUnit) : (s.setReport x).decoder = s.decoder := rfl
@[simp] theorem State.setReport_store (x : ReportUnit) : (s.setReport x).store = s.store := rfl
@[simp] theorem State.setReport_mem (x : ReportUnit) : (s.setReport x).mem = s.mem := rfl
@[simp] theorem State.setReport_palette (x : ReportUnit) : (s.setReport x).palette = s.palette := rfl
@[simp] theorem State.setReport_engine (x : ReportUnit) : (s.setReport x).engine = s.engine := rfl
@[simp] theorem State.setReport_mixer (x : ReportUnit) : (s.setReport x).mixer = s.mixer := rfl
@[simp] theorem State.setReport_nav (x : ReportUnit) : (s.setReport x).nav = s.nav := rfl
@[simp] theorem State.setReport_seq (x : ReportUnit) : (s.setReport x).seq = s.seq := rfl
@[simp] theorem State.setReport_report (x : ReportUnit) : (s.setReport x).report = x := rfl
@[simp] theorem State.setReport_skew (x : ReportUnit) : (s.setReport x).skew = s.skew := rfl

/-! ### setSkew -/

@[simp] theorem State.setSkew_pending (x : StartSkew) : (s.setSkew x).pending = s.pending := rfl
@[simp] theorem State.setSkew_resetLow (x : StartSkew) : (s.setSkew x).resetLow = s.resetLow := rfl
@[simp] theorem State.setSkew_port (x : StartSkew) : (s.setSkew x).port = s.port := rfl
@[simp] theorem State.setSkew_decoder (x : StartSkew) : (s.setSkew x).decoder = s.decoder := rfl
@[simp] theorem State.setSkew_store (x : StartSkew) : (s.setSkew x).store = s.store := rfl
@[simp] theorem State.setSkew_mem (x : StartSkew) : (s.setSkew x).mem = s.mem := rfl
@[simp] theorem State.setSkew_palette (x : StartSkew) : (s.setSkew x).palette = s.palette := rfl
@[simp] theorem State.setSkew_engine (x : StartSkew) : (s.setSkew x).engine = s.engine := rfl
@[simp] theorem State.setSkew_mixer (x : StartSkew) : (s.setSkew x).mixer = s.mixer := rfl
@[simp] theorem State.setSkew_nav (x : StartSkew) : (s.setSkew x).nav = s.nav := rfl
@[simp] theorem State.setSkew_seq (x : StartSkew) : (s.setSkew x).seq = s.seq := rfl
@[simp] theorem State.setSkew_report (x : StartSkew) : (s.setSkew x).report = s.report := rfl
@[simp] theorem State.setSkew_skew (x : StartSkew) : (s.setSkew x).skew = x := rfl

/-! ### raise and raiseAt: only the report unit changes (R168) -/

@[simp] theorem State.raise_pending (b : ReportBody) : (s.raise b).pending = s.pending := rfl
@[simp] theorem State.raise_resetLow (b : ReportBody) : (s.raise b).resetLow = s.resetLow := rfl
@[simp] theorem State.raise_port (b : ReportBody) : (s.raise b).port = s.port := rfl
@[simp] theorem State.raise_decoder (b : ReportBody) : (s.raise b).decoder = s.decoder := rfl
@[simp] theorem State.raise_store (b : ReportBody) : (s.raise b).store = s.store := rfl
@[simp] theorem State.raise_mem (b : ReportBody) : (s.raise b).mem = s.mem := rfl
@[simp] theorem State.raise_palette (b : ReportBody) : (s.raise b).palette = s.palette := rfl
@[simp] theorem State.raise_engine (b : ReportBody) : (s.raise b).engine = s.engine := rfl
@[simp] theorem State.raise_mixer (b : ReportBody) : (s.raise b).mixer = s.mixer := rfl
@[simp] theorem State.raise_nav (b : ReportBody) : (s.raise b).nav = s.nav := rfl
@[simp] theorem State.raise_seq (b : ReportBody) : (s.raise b).seq = s.seq := rfl
@[simp] theorem State.raise_report (b : ReportBody) : (s.raise b).report = s.report.enqueue s.engine.fc b := rfl
@[simp] theorem State.raise_skew (b : ReportBody) : (s.raise b).skew = s.skew := rfl
@[simp] theorem State.raiseAt_pending (fc : FrameCount) (b : ReportBody) : (s.raiseAt fc b).pending = s.pending := rfl
@[simp] theorem State.raiseAt_resetLow (fc : FrameCount) (b : ReportBody) : (s.raiseAt fc b).resetLow = s.resetLow := rfl
@[simp] theorem State.raiseAt_port (fc : FrameCount) (b : ReportBody) : (s.raiseAt fc b).port = s.port := rfl
@[simp] theorem State.raiseAt_decoder (fc : FrameCount) (b : ReportBody) : (s.raiseAt fc b).decoder = s.decoder := rfl
@[simp] theorem State.raiseAt_store (fc : FrameCount) (b : ReportBody) : (s.raiseAt fc b).store = s.store := rfl
@[simp] theorem State.raiseAt_mem (fc : FrameCount) (b : ReportBody) : (s.raiseAt fc b).mem = s.mem := rfl
@[simp] theorem State.raiseAt_palette (fc : FrameCount) (b : ReportBody) : (s.raiseAt fc b).palette = s.palette := rfl
@[simp] theorem State.raiseAt_engine (fc : FrameCount) (b : ReportBody) : (s.raiseAt fc b).engine = s.engine := rfl
@[simp] theorem State.raiseAt_mixer (fc : FrameCount) (b : ReportBody) : (s.raiseAt fc b).mixer = s.mixer := rfl
@[simp] theorem State.raiseAt_nav (fc : FrameCount) (b : ReportBody) : (s.raiseAt fc b).nav = s.nav := rfl
@[simp] theorem State.raiseAt_seq (fc : FrameCount) (b : ReportBody) : (s.raiseAt fc b).seq = s.seq := rfl
@[simp] theorem State.raiseAt_report (fc : FrameCount) (b : ReportBody) : (s.raiseAt fc b).report = s.report.enqueue fc b := rfl
@[simp] theorem State.raiseAt_skew (fc : FrameCount) (b : ReportBody) : (s.raiseAt fc b).skew = s.skew := rfl

end Sys2Proof.Machine
end

