-- ==== Sys2Proof/Laws/FrameStart.lean ====
section
/-! SUPPORT. One FC value for each frame start, whichever of the composition engine and the palette unit takes it first,
and whatever Clock comes between them (R63, R67, R68, log entry 5). -/

namespace Sys2Proof.Machine

open Sys2Proof

theorem startFc_level {s : State} (h : s.skew = .level) : s.startFc = s.engine.nextFc := by
  simp only [State.startFc, h]

theorem engineStartFc_level {s : State} (h : s.skew = .level) : s.engineStartFc = s.engine.nextFc := by
  simp only [State.engineStartFc, h]

theorem clockLeft_level {s : State} (h : s.skew = .level) : s.clockLeft = none := by simp only [State.clockLeft, h]

/-- A patch test leaves the engine alone. -/
theorem testPatch_engine (fc : FrameCount) (s : State) : (testPatch fc s).engine = s.engine := by
  unfold testPatch; split
  · split <;> rfl
  · rfl
  · rfl

/-- The engine gives the value that the palette unit has used (R63). -/
theorem engineStartFc_paletteStart {s : State} (h : s.skew = .level) : (paletteStart s).engineStartFc = s.startFc := by
  simp only [paletteStart, State.engineStartFc, State.setSkew_skew, h, StartSkew.paletteTook]

/-- The palette unit uses the value that the engine has given (R63). -/
theorem startFc_of_engineAhead {s : State} (h : s.skew = .engineAhead) : s.startFc = s.engine.fc := by
  simp only [State.startFc, h]

/-- A Clock taken between the palette unit's frame start and the engine's leaves the value of that frame start (R68). -/
theorem engineStartFc_takeClock {s : State} {fc : FrameCount} {c : Bool} (h : s.skew = .paletteAhead fc c)
    (body : List Byte) : (takeClock body s).engineStartFc = s.engineStartFc := by
  unfold takeClock; split
  · rfl
  · simp only [State.engineStartFc, State.setSkew_skew, h, StartSkew.clockTook]

/-- Its value stays pending for the following frame start (R68). -/
theorem clockLeft_takeClock {s : State} {fc t : FrameCount} {c : Bool} (h : s.skew = .paletteAhead fc c)
    {body : List Byte} (hb : readClock body = some t) : (takeClock body s).clockLeft = some t := by
  simp only [takeClock, hb, State.clockLeft, State.setSkew_skew, h, StartSkew.clockTook]
  rfl

end Sys2Proof.Machine
end

