-- ==== Sys2Proof/Laws/Memory.lean ====
section
/-! SUPPORT. Object memory and the keyed lists beneath it: a read after a write, the frame of a write, and the canonical
form, which every memory operation keeps (R19, R21). -/

namespace Sys2Proof.Machine

open Sys2Proof

variable {α : Type}

/-- The keys of a keyed list rise strictly. -/
abbrev Rising (m : List (Nat × α)) : Prop := (m.map Prod.fst).Pairwise (· < ·)

/-! ### Lists keyed by number -/

theorem getKey_putKey (k a : Nat) (v : α) (m : List (Nat × α)) :
    getKey a (putKey k v m) = if a = k then some v else getKey a m := by
  induction m with
  | nil => rfl
  | cons c m ih =>
    obtain ⟨b, x⟩ := c
    unfold putKey
    split_ifs <;> simp_all only [getKey] <;> split_ifs <;> simp_all

theorem getKey_dropKey (k a : Nat) (m : List (Nat × α)) :
    getKey a (dropKey k m) = if a = k then none else getKey a m := by
  induction m with
  | nil => simp [dropKey, getKey]
  | cons c m ih =>
    obtain ⟨b, x⟩ := c
    unfold dropKey
    split_ifs <;> simp_all only [getKey] <;> split_ifs <;> simp_all

theorem mem_putKey {k : Nat} {v : α} {m : List (Nat × α)} {c : Nat × α} (h : c ∈ putKey k v m) : c = (k, v) ∨ c ∈ m := by
  induction m with
  | nil => simpa [putKey] using h
  | cons d m ih =>
    obtain ⟨b, x⟩ := d
    unfold putKey at h
    split_ifs at h <;> simp only [List.mem_cons] at h ⊢ <;> tauto

theorem mem_dropKey {k : Nat} {m : List (Nat × α)} {c : Nat × α} (h : c ∈ dropKey k m) : c ∈ m := by
  induction m with
  | nil => simp [dropKey] at h
  | cons d m ih =>
    obtain ⟨b, x⟩ := d
    unfold dropKey at h
    split_ifs at h <;> simp only [List.mem_cons] at h ⊢ <;> tauto

theorem putKey_rising (k : Nat) (v : α) {m : List (Nat × α)} (h : Rising m) : Rising (putKey k v m) := by
  induction m with
  | nil => simp [putKey, Rising]
  | cons d m ih =>
    obtain ⟨b, x⟩ := d
    simp only [Rising, List.map_cons, List.pairwise_cons, List.mem_map, forall_exists_index, and_imp] at h ih
    unfold putKey
    split_ifs with h1 h2
    · simp only [Rising, List.map_cons, List.pairwise_cons, List.mem_cons, List.mem_map]
      refine ⟨?_, fun y hy => ?_, h.2⟩
      · rintro y (rfl | ⟨c, hc, rfl⟩)
        · exact h1
        · exact h1.trans (h.1 _ c hc rfl)
      · obtain ⟨c, hc, rfl⟩ := hy
        exact h.1 _ c hc rfl
    · subst h2
      simp only [Rising, List.map_cons, List.pairwise_cons, List.mem_map]
      exact ⟨fun y ⟨c, hc, e⟩ => h.1 y c hc e, h.2⟩
    · simp only [Rising, List.map_cons, List.pairwise_cons, List.mem_map]
      refine ⟨?_, ih h.2⟩
      rintro y ⟨c, hc, rfl⟩
      rcases mem_putKey hc with rfl | hc
      · simp only; omega
      · exact h.1 _ c hc rfl

theorem dropKey_rising (k : Nat) {m : List (Nat × α)} (h : Rising m) : Rising (dropKey k m) := by
  induction m with
  | nil => simp [dropKey, Rising]
  | cons d m ih =>
    obtain ⟨b, x⟩ := d
    simp only [Rising, List.map_cons, List.pairwise_cons, List.mem_map] at h ih
    unfold dropKey
    split_ifs
    · exact ih h.2
    · simp only [Rising, List.map_cons, List.pairwise_cons, List.mem_map]
      exact ⟨fun y ⟨c, hc, e⟩ => h.1 y ⟨c, mem_dropKey hc, e⟩, ih h.2⟩

/-! ### Object memory -/

/-- A byte written is read back, and every other byte stands. -/
theorem Memory.read_write (m : Memory) (a b : Nat) (x : Byte) :
    (m.write a x).read b = if b = a then x else m.read b := by
  unfold Memory.write Memory.read
  split_ifs <;> simp_all [getKey_putKey, getKey_dropKey]

/-- A write within object memory keeps the canonical form. -/
theorem Memory.write_wf {m : Memory} (h : m.wf) {a : Nat} (x : Byte) (ha : a < Config.numGranules * Config.granuleBytes) :
    (m.write a x).wf := by
  unfold Memory.write
  split_ifs with hx
  · exact ⟨dropKey_rising a h.1, fun c hc => h.2 c (mem_dropKey hc)⟩
  · refine ⟨putKey_rising a x h.1, fun c hc => ?_⟩
    rcases mem_putKey hc with rfl | hc
    · exact ⟨hx, ha⟩
    · exact h.2 c hc

/-- An address in a chain lies within object memory (R19, R21). -/
theorem chainAddr_lt {chain : List Granule} {b a : Nat} (h : chainAddr chain b = some a) :
    a < Config.numGranules * Config.granuleBytes := by
  obtain ⟨g, _, rfl⟩ := Option.map_eq_some_iff.mp h
  have := g.isLt
  have := Nat.mod_lt b (show 0 < Config.granuleBytes by decide)
  simp only [Config.numGranules, Config.granuleBytes] at *
  omega

/-- A write through a chain keeps the canonical form. -/
theorem chainWrite_wf {m : Memory} (h : m.wf) (chain : List Granule) (b : Nat) (x : Byte) :
    (chainWrite m chain b x).wf := by
  unfold chainWrite
  split
  · exact Memory.write_wf h x (chainAddr_lt ‹_›)
  · exact h

/-- Two offsets within a chain that holds no granule twice name one address only if they are equal (R20, R21). -/
theorem chainAddr_inj {chain : List Granule} (hn : chain.Nodup) {b c a : Nat} (hb : chainAddr chain b = some a)
    (hc : chainAddr chain c = some a) : b = c := by
  obtain ⟨g, hg, e⟩ := Option.map_eq_some_iff.mp hb
  obtain ⟨g', hg', e'⟩ := Option.map_eq_some_iff.mp hc
  have h1 := Nat.mod_lt b (show 0 < Config.granuleBytes by decide)
  have h2 := Nat.mod_lt c (show 0 < Config.granuleBytes by decide)
  have d1 := Nat.div_add_mod b Config.granuleBytes
  have d2 := Nat.div_add_mod c Config.granuleBytes
  simp only [Config.granuleBytes] at *
  have hgg : g = g' := Fin.ext (by omega)
  subst hgg
  obtain ⟨i1, v1⟩ := List.getElem?_eq_some_iff.mp hg
  obtain ⟨i2, v2⟩ := List.getElem?_eq_some_iff.mp hg'
  have := (List.Nodup.getElem_inj_iff hn).mp (v1.trans v2.symm)
  omega

/-- A byte written through a chain reads back through it, and every other byte of the chain stands. -/
theorem chainRead_chainWrite {m : Memory} {chain : List Granule} (hn : chain.Nodup) {b : Nat}
    (hb : (chainAddr chain b).isSome = true) (c : Nat) (x : Byte) :
    chainRead (chainWrite m chain b x) chain c = if c = b then x else chainRead m chain c := by
  obtain ⟨a, ha⟩ := Option.isSome_iff_exists.mp hb
  unfold chainRead chainWrite
  rw [ha]
  cases hc : chainAddr chain c with
  | none =>
    have : c ≠ b := fun e => by rw [e, ha] at hc; exact absurd hc (by simp)
    simp [this]
  | some a' =>
    by_cases e : c = b
    · subst e; rw [ha] at hc; cases hc; simp [Memory.read_write]
    · have : a' ≠ a := fun e' => e (chainAddr_inj hn (e' ▸ hc) ha)
      simp [Memory.read_write, e, this]

/-- Memory after reset has the canonical form. -/
theorem reset_mem_wf : State.reset.mem.wf := by decide

end Sys2Proof.Machine
end

