-- ==== Sys2Proof/Laws/Sequencer.lean ====
section
/-! SUPPORT. What the sequencer's operations do, once each: they come to the rules that Safety.lean says for the statements
(chapter 8). -/

namespace Sys2Proof.Machine

open Sys2Proof

/-- A state with a sequencer and a report unit put in. -/
def State.hear (s : State) (u : Sequencer × ReportUnit) : State := { s with seq := u.1, report := u.2 }

/-- A scan finds the first eligible entry and reports the entries before it whose page is undefined (R153). -/
theorem scanEntries_eq_rule (order : List Nat) (s : State) :
    scanEntries order s =
      ((scanByRule (fun p => (s.engine.page p).defined) s.engine.fc s.seq order s.report).1,
        { s with
          report := (scanByRule (fun p => (s.engine.page p).defined) s.engine.fc s.seq order s.report).2 }) := by
  induction order generalizing s with
  | nil => simp [scanEntries, scanByRule]
  | cons i l ih =>
    cases hi : s.seq.list[i]? with
    | none => simp [scanEntries, scanByRule, hi, ih]
    | some e =>
      cases hc : e.cond.holds s.seq.flagsCopy with
      | false => simp [scanEntries, scanByRule, hi, hc, ih, Option.filter]
      | true =>
        cases hp : (s.engine.page e.page).defined with
        | true => simp [scanEntries, scanByRule, hi, hc, hp, Option.filter]
        | false => simp [scanEntries, scanByRule, hi, hc, hp, ih, Option.filter, State.raise, State.setReport]

/-- A run ends (R162). -/
theorem endRun_eq_rule (why : EndReason) (s : State) :
    endRun why .ended s = s.hear (endByRule s.engine.fc why s.seq s.report) := rfl

/-- The reference entry (R153). -/
theorem reference_eq_rule (q : Sequencer) : q.reference = referenceByRule q := by
  unfold Sequencer.reference referenceByRule
  cases q.target <;> cases q.placed <;> rfl

/-- The entries from `m` on, and those before it. -/
theorem drop_range (n m : Nat) : (List.range n).drop m = (List.range n).filter (m ≤ ·) := by
  apply List.Perm.eq_of_pairwise (le := (· < ·))
  · intro a b _ _ h1 h2; omega
  · exact (List.pairwise_lt_range).drop
  · exact (List.pairwise_lt_range).filter _
  · refine (List.perm_ext_iff_of_nodup (List.nodup_range.sublist (List.drop_sublist _ _)) (List.nodup_range.filter _)).2 ?_
    intro a
    simp only [List.mem_drop_iff_getElem, List.length_range, List.getElem_range, List.mem_filter, List.mem_range,
      decide_eq_true_eq]
    constructor
    · rintro ⟨i, h, rfl⟩; omega
    · rintro ⟨h1, h2⟩; exact ⟨a - m, by omega, by omega⟩

theorem take_range (n m : Nat) : (List.range n).take m = (List.range n).filter (· < m) := by
  apply List.Perm.eq_of_pairwise (le := (· < ·))
  · intro a b _ _ h1 h2; omega
  · exact (List.pairwise_lt_range).take
  · exact (List.pairwise_lt_range).filter _
  · refine (List.perm_ext_iff_of_nodup (List.nodup_range.sublist (List.take_sublist _ _)) (List.nodup_range.filter _)).2 ?_
    intro a
    simp only [List.take_range, List.mem_filter, List.mem_range, decide_eq_true_eq]
    omega

/-- The order of a forward scan: from the entry after the reference entry on and, in LOOP, round to it (R153). -/
theorem forwardOrder_eq_rule (n : Nat) (loop : Bool) (ref : Option Nat) :
    forwardOrder n loop ref =
      (List.range n).filter ((ref.map (· + 1)).getD 0 ≤ ·) ++
        if loop then (List.range n).filter (· < (ref.map (· + 1)).getD 0) else [] := by
  cases ref with
  | none => simp [forwardOrder]
  | some r => simp only [forwardOrder, drop_range, take_range, Option.map_some, Option.getD_some]

/-- The scan of an advance and its outcome, which the count in DRAINING does not touch (R153). -/
theorem advanceScan_eq_rule (ref : Option Nat) (s : State) :
    advanceScan ref s = s.hear
      (match scanByRule (fun p => (s.engine.page p).defined) s.engine.fc s.seq
          (forwardOrder s.seq.list.length s.seq.loops ref) s.report with
        | (some i, r) => (s.seq.aim i, r)
        | (none, r) =>
          if s.seq.loops then endByRule s.engine.fc .empty s.seq (r.enqueue s.engine.fc (.emptyRun ref s.seq.list.length))
          else endByRule s.engine.fc .finish s.seq r) := by
  unfold advanceScan
  rw [scanEntries_eq_rule]
  split <;> rename_i h <;> obtain ⟨h1, rfl⟩ := Prod.mk.inj h <;> rw [← Prod.eta (scanByRule _ _ _ _ _), h1]
  · rfl
  · dsimp only
    split <;> rfl

/-- An advance (R153, R154). -/
theorem advanceFrom_eq_rule (ref : Option Nat) (s : State) :
    advanceFrom ref s =
      s.hear (advanceByRule (fun p => (s.engine.page p).defined) s.engine.fc ref s.seq s.report) := by
  have loops (q : Sequencer) : q.loops = true ↔ q.config.endMode = .loop := by simp [Sequencer.loops]
  have scan (k : Nat) (order : List Nat) :
      scanByRule (fun p => (s.engine.page p).defined) s.engine.fc { s.seq with drain := k } order s.report =
        scanByRule (fun p => (s.engine.page p).defined) s.engine.fc s.seq order s.report := rfl
  unfold advanceFrom advanceByRule
  split
  · next hr =>
    split
    · next hd => rw [if_pos ⟨hr, hd⟩]; rfl
    · next hd =>
      rw [if_neg fun h => hd h.2]
      simp only [advanceScan_eq_rule, forwardOrder_eq_rule, loops, State.setSeq, scan]
      generalize scanByRule _ _ _ _ _ = x
      obtain ⟨_ | i, r⟩ := x
      · dsimp only; split <;> rfl
      · simp only [State.hear, Sequencer.aim, hr]
  · next hr =>
    rw [if_neg fun h => hr h.1]
    simp only [advanceScan_eq_rule, forwardOrder_eq_rule, loops]
    generalize scanByRule _ _ _ _ _ = x
    obtain ⟨_ | i, r⟩ := x
    · rfl
    · simp only [State.hear, Sequencer.aim]

/-- The order of a start scan (R153). -/
theorem startOrder_eq_rule (n : Nat) (loop : Bool) (e : Nat) :
    startOrder n loop e = if n ≤ e then [] else
      (List.range n).filter (e ≤ ·) ++ if loop then (List.range n).filter (· < e) else [] := by
  unfold startOrder
  simp only [drop_range, take_range]
  by_cases h : e < n
  · rw [if_pos h, if_neg (Nat.not_le.2 h)]
  · rw [if_neg h, if_pos (Nat.not_lt.1 h)]

/-- A start trigger (R151, R153). -/
theorem startTrigger_eq_rule (source : StartedBy) (entry : Nat) (s : State) :
    startTrigger source entry s =
      s.hear (startByRule (fun p => (s.engine.page p).defined) s.engine.fc source entry s.seq s.report) := by
  have loops (q : Sequencer) : q.loops = true ↔ q.config.endMode = .loop := by simp [Sequencer.loops]
  have scan (r : RunState) (order : List Nat) :
      scanByRule (fun p => (s.engine.page p).defined) s.engine.fc { s.seq with run := r } order s.report =
        scanByRule (fun p => (s.engine.page p).defined) s.engine.fc s.seq order s.report := rfl
  have start (e : Nat) : startRun source e s = s.hear
      (match scanByRule (fun p => (s.engine.page p).defined) s.engine.fc s.seq
          (if s.seq.list.length ≤ e then [] else
            (List.range s.seq.list.length).filter (e ≤ ·) ++
              if s.seq.config.endMode = .loop then (List.range s.seq.list.length).filter (· < e) else []) s.report with
        | (some i, r) => ({ s.seq.aim i with run := .running, drain := 0 }, r.enqueue s.engine.fc (.started i source))
        | (none, r) =>
          endByRule s.engine.fc .empty s.seq (r.enqueue s.engine.fc (.emptyRun (some e) s.seq.list.length))) := by
    unfold startRun
    simp only [scanEntries_eq_rule, startOrder_eq_rule, loops, State.setSeq, scan]
    split <;> rename_i h <;> obtain ⟨h1, rfl⟩ := Prod.mk.inj h <;> rw [← Prod.eta (scanByRule _ _ _ _ _), h1] <;> rfl
  unfold startTrigger startByRule
  cases hr : s.seq.run with
  | armed => simp only [start, true_or, ↓reduceIte]; rfl
  | ended =>
    by_cases h : s.seq.config.endMode = .once
    · simp only [h]; rfl
    · simp only [h, start, reduceCtorEq, ↓reduceIte, ne_eq, not_false_eq_true, and_self, or_true]; rfl
  | _ => simp only [reduceCtorEq, false_and, or_self, ↓reduceIte]; rfl

/-- A stop trigger (R152). -/
theorem stopTrigger_eq_rule (s : State) : stopTrigger s = s.hear (stopByRule s.engine.fc s.seq s.report) := by
  cases h : s.seq.run <;> simp only [stopTrigger, stopByRule, h, reduceCtorEq, or_self, or_true, true_or, ↓reduceIte] <;>
    first
    | rfl
    | (split <;> rfl)

end Sys2Proof.Machine
end

