-- ==== Sys2Proof/Laws/Tables.lean ====
section
/-! SUPPORT. Tables of fixed size: what a table operation leaves at each index, for directory slots, page records, contexts,
navigation states and palettes. -/

namespace Sys2Proof.Machine

open Sys2Proof

@[simp] theorem tableMap_get {α β : Type} {n : Nat} (f : Fin n → α → β) (v : Vector α n) (i : Fin n) :
    (tableMap f v)[i] = f i v[i] := by
  simp [tableMap]

@[simp] theorem tableMap_get_nat {α β : Type} {n : Nat} (f : Fin n → α → β) (v : Vector α n) (i : Nat) (h : i < n) :
    (tableMap f v)[i] = f ⟨i, h⟩ v[i] := by
  simp [tableMap]

theorem tableJoin_eq {α β : Type} {n : Nat} (f : Fin n → α → List β) (v : Vector α n) :
    tableJoin f v = (List.finRange n).flatMap fun i => f i v[i] := rfl

@[simp] theorem Store.setSlot_slot (st : Store) (k j : ObjId) (x : Slot) :
    (st.setSlot k x).slot j = if j = k then x else st.slot j := by
  by_cases h : j = k
  · subst h; simp [Store.setSlot, Store.slot]
  · have : k.val ≠ j.val := fun e => h (Fin.ext e.symm)
    simp [Store.setSlot, Store.slot, h, Vector.getElem_set_ne, this]

@[simp] theorem Store.setSlot_free (st : Store) (k : ObjId) (x : Slot) : (st.setSlot k x).free = st.free := rfl
@[simp] theorem Store.release_slot (st : Store) (l : List Granule) (k : ObjId) : (st.release l).slot k = st.slot k := rfl
@[simp] theorem Store.release_free (st : Store) (l : List Granule) : (st.release l).free = st.free ++ l := rfl

/-- R31, slot by slot. -/
theorem Store.frameStart_slot (st : Store) (k : ObjId) : st.frameStart.slot k = (st.slot k).swap := by
  simp [Store.frameStart, Store.slot]

/-- R33, slot by slot. -/
theorem Store.frameEnd_slot (st : Store) (live : List ObjId) (k : ObjId) :
    (st.frameEnd live).slot k = (st.slot k).expire live k := by
  simp [Store.frameEnd, Store.slot]

/-- R35, slot by slot. -/
theorem Store.setOpen_slot (st : Store) (k : ObjId) : st.setOpen.slot k = (st.slot k).drop := by
  simp [Store.setOpen, Store.slot]

@[simp] theorem Engine.setPage_page (e : Engine) (p q : PageId) (x : Page) :
    (e.setPage p x).page q = if q = p then x else e.page q := by
  by_cases h : q = p
  · subst h; simp [Engine.setPage, Engine.page]
  · have : p.val ≠ q.val := fun e => h (Fin.ext e.symm)
    simp [Engine.setPage, Engine.page, h, Vector.getElem_set_ne, this]

@[simp] theorem Engine.setPage_contexts (e : Engine) (p : PageId) (x : Page) : (e.setPage p x).contexts = e.contexts := rfl
@[simp] theorem Engine.setPage_schedule (e : Engine) (p : PageId) (x : Page) : (e.setPage p x).schedule = e.schedule := rfl
@[simp] theorem Engine.setPage_fc (e : Engine) (p : PageId) (x : Page) : (e.setPage p x).fc = e.fc := rfl

@[simp] theorem Contexts.set_get (cs : Contexts) (c d : Ctx) (x : CtxState) :
    (cs.set x c).get d = if d = c then x else cs.get d := by
  cases c <;> cases d <;> rfl

@[simp] theorem Nav.set_get (n : Nav) (c d : NavCtx) (x : NavState) :
    (n.set x c).get d = if d = c then x else n.get d := by
  cases c <;> cases d <;> rfl

@[simp] theorem Nav.set_flags (n : Nav) (c : NavCtx) (x : NavState) : (n.set x c).flags = n.flags := by cases c <;> rfl
@[simp] theorem Nav.set_keys (n : Nav) (c : NavCtx) (x : NavState) : (n.set x c).keys = n.keys := by cases c <;> rfl
@[simp] theorem Nav.set_resting (n : Nav) (c : NavCtx) (x : NavState) : (n.set x c).resting = n.resting := by
  cases c <;> rfl

/-- R63: an applied patch, entry by entry. -/
theorem PaletteUnit.apply_entry (u : PaletteUnit) (p r : PaletteId) (t : Touched) (ix : Byte) :
    (u.apply p t).entry r ix = if r = p then (getKey ix.toNat t).getD (u.entry r ix) else u.entry r ix := by
  by_cases h : r = p
  · subst h; simp [PaletteUnit.apply, PaletteUnit.entry, writeTouched]
  · have : p.val ≠ r.val := fun e => h (Fin.ext e.symm)
    simp [PaletteUnit.apply, PaletteUnit.entry, h, Vector.getElem_set_ne, this]

end Sys2Proof.Machine
end

