-- ==== Sys2Proof/Laws/Navigation.lean ====
section
/-! SUPPORT. What the navigation unit's operations do, once each: they come to the rules that Safety.lean says for the
statements (chapter 7). -/

namespace Sys2Proof.Machine

open Sys2Proof

/-- The navigation page's definition. -/
theorem navDef_eq_rule (s : State) (c : NavCtx) : navDef s c = shownDef s c := by
  unfold navDef shownDef; cases (s.nav.get c).page <;> rfl

/-- The animation of a button's visual (R120, R124). -/
theorem animationByRule_eq (d : PageDef) (b : Button) (x : ButtonState) :
    animationByRule d b x = match b.visual x with
      | .animation ix => d.animations[ix]?
      | _ => none := by cases x <;> rfl

/-- A button's playhead as it enters a state (R126). -/
theorem startHead_eq_rule (d : PageDef) (b : Button) (x : ButtonState) (fresh : Bool) :
    startHead d.animations (b.visual x) fresh = headByRule d b x fresh := by
  rw [headByRule, animationByRule_eq]
  cases b.visual x with
  | animation ix => simp only [startHead]; cases d.animations[ix]? <;> rfl
  | _ => rfl

/-- A button enters a state, unless it is in it (R126). -/
theorem moveButton_eq_rule (d : PageDef) (i : Nat) (x : ButtonState) (n : NavState) :
    moveButton d i x n = enterByRule d i x n := by
  have same (h : ∀ b y, d.buttons[i]? = some b → n.buttons[i]? = some y → y.state = x) : enterByRule d i x n = n := by
    have : (enterByRule d i x n).buttons = n.buttons := by
      apply List.ext_getElem?
      intro m
      simp only [enterByRule, List.getElem?_mapIdx]
      cases hy : n.buttons[m]? with
      | none => rfl
      | some y =>
        cases hb : d.buttons[m]? with
        | none => simp
        | some b =>
          by_cases hm : m = i
          · subst hm; simp [h b y hb hy]
          · simp [hm]
    cases n; simp_all [enterByRule]
  unfold moveButton
  split
  · next b old hb hy =>
    split
    · next hs =>
      refine (same fun b' y' h1 h2 => ?_).symm
      rw [hy] at h2; exact Option.some.inj h2 ▸ hs
    · next hs =>
      simp only [enterByRule, NavState.mk.injEq, true_and, and_true]
      apply List.ext_getElem?
      intro m
      simp only [List.getElem?_mapIdx, List.getElem?_set]
      by_cases hm : i = m
      · subst hm
        obtain ⟨hl, ho⟩ := List.getElem?_eq_some_iff.1 hy
        simp [hb, hl, ho, hs, enterState, startHead_eq_rule]
      · cases hx : n.buttons[m]? with
        | none => simp [hm]
        | some y => cases d.buttons[m]? <;> simp [hm, Ne.symm hm]
  · next hn =>
    refine (same fun b y h1 h2 => ?_).symm
    exact absurd h2 (hn b y h1)

/-- An insertion with its stack operation (R83, R141). -/
theorem insertWith_eq_rule (c : NavCtx) (p : Option PageId) (t : Transition) (restore : Option Nat)
    (stack : List (PageId × Option Nat)) (s : State) :
    insertWith c (navShow c p t restore) stack s = insertByRule c p t restore stack s := by
  unfold insertWith insertByRule insertEntry
  by_cases h : s.engine.schedule.length < 8 <;> simp [h, Engine.hasRoom, Engine.append, navShow, State.setEngine,
    State.setStack, State.setNavState, State.setNav, State.raise, State.setReport]

/-- An insertion that leaves the stack alone (R83, R141). -/
theorem insertEntry_eq_rule (c : NavCtx) (p : Option PageId) (t : Transition) (restore : Option Nat) (s : State) :
    (insertEntry (navShow c p t restore) s).2 = insertByRule c p t restore (s.nav.get c).stack s := by
  have h : s.nav.set (s.nav.get c) c = s.nav := by cases c <;> rfl
  unfold insertByRule insertEntry
  by_cases hl : s.engine.schedule.length < 8 <;> simp [hl, h, Engine.hasRoom, Engine.append, navShow, State.setEngine,
    State.raise, State.setReport]

/-- The notice that the flags word has changed (R150). -/
theorem flagsNotice_eq_rule (new : Half) (s : State) :
    flagsNotice new s =
      s.hear (flagsByRule (fun p => (s.engine.page p).defined) s.engine.fc new s.seq s.report) := by
  have turns (m : MaskCompare) : m.turnsTrue s.seq.flagsCopy new = true ↔
      s.seq.flagsCopy &&& m.mask ≠ m.compare ∧ new &&& m.mask = m.compare := by
    simp [MaskCompare.turnsTrue, MaskCompare.holds]
  unfold flagsNotice flagsByRule
  simp only [turns]
  by_cases h1 : s.seq.config.startKind = .flags ∧
      s.seq.flagsCopy &&& s.seq.config.startCond.mask ≠ s.seq.config.startCond.compare ∧
        new &&& s.seq.config.startCond.mask = s.seq.config.startCond.compare <;>
    by_cases h2 : s.seq.config.stopKind = .flags ∧
      s.seq.flagsCopy &&& s.seq.config.stopCond.mask ≠ s.seq.config.stopCond.compare ∧
        new &&& s.seq.config.stopCond.mask = s.seq.config.stopCond.compare <;>
    cases hr : s.seq.run <;>
    simp [h1, h2, startTrigger_eq_rule, stopTrigger_eq_rule, RunState.isRunning, State.setSeq, State.hear, stopByRule,
      startByRule]

/-- The flags word takes a value (R118). -/
theorem setFlagsAction_eq_rule (set clear : Half) (s : State) :
    setFlagsAction set clear s =
      (let new := (s.nav.flags &&& ~~~clear) ||| set
       if new = s.nav.flags then s
       else State.hear { s with nav := { s.nav with flags := new, flagsChanged := true } }
         (flagsByRule (fun p => (s.engine.page p).defined) s.engine.fc new s.seq
           (s.report.enqueue s.engine.fc (.flagsChanged new)))) := by
  simp only [setFlagsAction, applyMasks]
  by_cases h : s.nav.flags &&& ~~~clear ||| set = s.nav.flags
  · simp only [h, ↓reduceIte]
  · simp only [writeFlags, State.raise, State.setReport, h, ↓reduceIte, flagsNotice_eq_rule]; rfl

/-- An action (R141). -/
theorem performAction_eq_rule (c : NavCtx) (a : Action) (s : State) : performAction c a s = actionByRule c a s := by
  cases a with
  | none => rfl
  | goto q t =>
    simp only [performAction, actionByRule, goTo, insertWith_eq_rule]
    cases (s.nav.get c).page <;> simp [pushStack]
  | replace q t => exact insertEntry_eq_rule ..
  | back t =>
    simp only [performAction, actionByRule, goBack]
    cases (s.nav.get c).stack.getLast? with
    | some top => exact insertWith_eq_rule ..
    | none => cases c <;> first | rfl | exact insertEntry_eq_rule ..
  | close t => exact insertWith_eq_rule ..
  | slidesStart e => simp only [performAction, actionByRule, buttonStart, startTrigger_eq_rule]; rfl
  | slidesStop => simp only [performAction, actionByRule, buttonStop, stopTrigger_eq_rule]; rfl
  | setFlags set clear => exact setFlagsAction_eq_rule ..

/-- An activation ends (R134, R138). -/
theorem finishActivation_eq_rule (c : NavCtx) (i : Nat) (s : State) :
    finishActivation c i s = endActivationByRule c i s := by
  have def_ (x : NavState) (h : x.page = (s.nav.get c).page) : shownDef (s.setNavState c x) c = shownDef s c := by
    unfold shownDef; simp only [State.setNavState, State.setNav, Nav.set_get, if_true, h]
  simp only [finishActivation, executeAction, endActivationByRule, moveButton_eq_rule, navDef_eq_rule]
  generalize hn : ({ enterByRule (shownDef s c) i .selected (s.nav.get c) with activation := none } : NavState) = n
  have page : n.page = (s.nav.get c).page := by subst hn; rfl
  rw [def_ n page]
  cases (shownDef s c).buttons[i]? with
  | none => rfl
  | some b =>
    simp only [performAction_eq_rule]
    congr 1
    cases b.notify with
    | none => rfl
    | some code => simp only [State.setNavState, State.setNav, State.raise, State.setReport, Nav.set_get, if_true, page]

/-- A button is activated (R138). -/
theorem activate_eq_rule (c : NavCtx) (j : Nat) (s : State) : activate c j s = activateByRule c j s := by
  simp only [activate, activateByRule, moveButton_eq_rule, navDef_eq_rule, finishActivation_eq_rule]; rfl

/-- A button becomes selected (R137, R138). -/
theorem selectIn_eq_rule (c : NavCtx) (j : Nat) (s : State) : selectIn c j s = selectByRule c j s := by
  simp only [selectIn, selectByRule, selectButton, moveButton_eq_rule, navDef_eq_rule]; rfl

/-- An activation counts down (R134). -/
theorem countActivation_eq_rule (c : NavCtx) (s : State) : countActivation c s = countByRule c s := by
  simp only [countActivation, countByRule, finishActivation_eq_rule]
  cases (s.nav.get c).activation with
  | none => rfl
  | some a =>
    by_cases h : a.left ≤ 1
    · simp only [h, Nat.not_lt.2 h, ↓reduceIte]
    · simp only [h, Nat.lt_of_not_le h, ↓reduceIte]; rfl

end Sys2Proof.Machine
end

