-- ==== Sys2Proof/Laws/PerInstr.lean ====
section
/-! SUPPORT. Statements for all commands, one lemma per constructor. -/

namespace Sys2Proof.Laws.SegmentBody

open Sys2Proof Sys2Proof.Machine

/-- A well-formed segment command presents a segment that its port can carry: a body of at most 4000 bytes (R6, check 1). -/
def Statement (i : Instr) : Prop := i.wellFormed = true → ∀ g, segmentOf i = some g → g.body.length ≤ Config.maxBody

/-- A command that presents no segment. -/
theorem ofNone {i : Instr} (h : segmentOf i = none) : Statement i :=
  fun _ _ hg => nomatch h.symm.trans hg

/-- A command whose well-formedness bounds the body of the segment it presents. -/
theorem ofSegment {i : Instr} {g : Segment} {p : Prop} [Decidable p] (hs : segmentOf i = some g)
    (hw : i.wellFormed = decide p) (hp : p → g.body.length ≤ Config.maxBody) : Statement i := by
  intro h g' hg
  obtain rfl := Option.some.inj (hs.symm.trans hg)
  exact hp (of_decide_eq_true (hw.symm.trans h))

theorem segmentByte (b : Byte) : Statement (.segmentByte b) := ofNone rfl

theorem setOpen (body : List Byte) : Statement (.setOpen body) :=
  ofSegment rfl (p := body.length ≤ Config.maxBody) rfl fun h => h

theorem objectDataFirst (id : Half) (rest : List Byte) : Statement (.objectDataFirst id rest) :=
  ofSegment rfl (p := rest.length + 3 ≤ Config.maxBody) rfl fun h => h

theorem objectDataOnly (id : Half) (rest : List Byte) : Statement (.objectDataOnly id rest) :=
  ofSegment rfl (p := rest.length + 3 ≤ Config.maxBody) rfl fun h => h

theorem objectDataMiddle (id : Half) (code : List Byte) : Statement (.objectDataMiddle id code) :=
  ofSegment rfl (p := code.length + 3 ≤ Config.maxBody) rfl fun h => h

theorem objectDataLast (id : Half) (code : List Byte) : Statement (.objectDataLast id code) :=
  ofSegment rfl (p := code.length + 3 ≤ Config.maxBody) rfl fun h => h

theorem fragmentComplete : Statement (.fragmentComplete) := ofNone rfl

theorem objectDrop (body : List Byte) : Statement (.objectDrop body) :=
  ofSegment rfl (p := body.length ≤ Config.maxBody) rfl fun h => h

theorem paletteHold (palette : BitVec 4) (count : BitVec 9) (time : FrameCount) (entries : List Byte) :
    Statement (.paletteHold palette count time entries) :=
  ofSegment rfl (p := entries.length + 6 ≤ Config.maxBody) rfl fun h => h

theorem paletteNext (palette : BitVec 4) (count : BitVec 9) (time : FrameCount) (entries : List Byte) :
    Statement (.paletteNext palette count time entries) :=
  ofSegment rfl (p := entries.length + 6 ≤ Config.maxBody) rfl fun h => h

theorem paletteAt (palette : BitVec 4) (count : BitVec 9) (time : FrameCount) (entries : List Byte) :
    Statement (.paletteAt palette count time entries) :=
  ofSegment rfl (p := entries.length + 6 ≤ Config.maxBody) rfl fun h => h

theorem paletteDiscard (palette : BitVec 4) (count : BitVec 9) (time : FrameCount) (entries : List Byte) :
    Statement (.paletteDiscard palette count time entries) :=
  ofSegment rfl (p := entries.length + 6 ≤ Config.maxBody) rfl fun h => h

theorem pageSegment (body : List Byte) : Statement (.pageSegment body) :=
  ofSegment rfl (p := body.length ≤ Config.maxBody) rfl fun h => h

theorem buttons (body : List Byte) : Statement (.buttons body) :=
  ofSegment rfl (p := body.length ≤ Config.maxBody) rfl fun h => h

theorem animations (body : List Byte) : Statement (.animations body) :=
  ofSegment rfl (p := body.length ≤ Config.maxBody) rfl fun h => h

theorem scroll (body : List Byte) : Statement (.scroll body) :=
  ofSegment rfl (p := body.length ≤ Config.maxBody) rfl fun h => h

theorem showSegment (body : List Byte) : Statement (.showSegment body) :=
  ofSegment rfl (p := body.length ≤ Config.maxBody) rfl fun h => h

theorem slideList (body : List Byte) : Statement (.slideList body) :=
  ofSegment rfl (p := body.length ≤ Config.maxBody) rfl fun h => h

theorem key (body : List Byte) : Statement (.key body) :=
  ofSegment rfl (p := body.length ≤ Config.maxBody) rfl fun h => h

theorem flags (body : List Byte) : Statement (.flags body) :=
  ofSegment rfl (p := body.length ≤ Config.maxBody) rfl fun h => h

theorem clock (body : List Byte) : Statement (.clock body) :=
  ofSegment rfl (p := body.length ≤ Config.maxBody) rfl fun h => h

theorem output (body : List Byte) : Statement (.output body) :=
  ofSegment rfl (p := body.length ≤ Config.maxBody) rfl fun h => h

theorem configure (rest : List Byte) : Statement (.configure rest) :=
  ofSegment rfl (p := rest.length + 1 ≤ Config.maxBody) rfl fun h => h

theorem arm (rest : List Byte) : Statement (.arm rest) :=
  ofSegment rfl (p := rest.length + 1 ≤ Config.maxBody) rfl fun h => h

theorem disarm (rest : List Byte) : Statement (.disarm rest) :=
  ofSegment rfl (p := rest.length + 1 ≤ Config.maxBody) rfl fun h => h

theorem slideStart (rest : List Byte) : Statement (.slideStart rest) :=
  ofSegment rfl (p := rest.length + 1 ≤ Config.maxBody) rfl fun h => h

theorem slideStop (rest : List Byte) : Statement (.slideStop rest) :=
  ofSegment rfl (p := rest.length + 1 ≤ Config.maxBody) rfl fun h => h

theorem slidePause (rest : List Byte) : Statement (.slidePause rest) :=
  ofSegment rfl (p := rest.length + 1 ≤ Config.maxBody) rfl fun h => h

theorem slideResume (rest : List Byte) : Statement (.slideResume rest) :=
  ofSegment rfl (p := rest.length + 1 ≤ Config.maxBody) rfl fun h => h

theorem slideNext (rest : List Byte) : Statement (.slideNext rest) :=
  ofSegment rfl (p := rest.length + 1 ≤ Config.maxBody) rfl fun h => h

theorem slidePrev (rest : List Byte) : Statement (.slidePrev rest) :=
  ofSegment rfl (p := rest.length + 1 ≤ Config.maxBody) rfl fun h => h

theorem statusRequest (body : List Byte) : Statement (.statusRequest body) :=
  ofSegment rfl (p := body.length ≤ Config.maxBody) rfl fun h => h

theorem attentionMask (body : List Byte) : Statement (.attentionMask body) :=
  ofSegment rfl (p := body.length ≤ Config.maxBody) rfl fun h => h

theorem restart (body : List Byte) : Statement (.restart body) :=
  ofSegment rfl (p := body.length ≤ Config.maxBody) rfl fun h => h

theorem engineFrameStart : Statement (.engineFrameStart) := ofNone rfl

theorem transitionEnd (c : Ctx) : Statement (.transitionEnd c) := ofNone rfl

theorem storeFrameStart : Statement (.storeFrameStart) := ofNone rfl

theorem paletteFrameStart : Statement (.paletteFrameStart) := ofNone rfl

theorem mixerFrameStart : Statement (.mixerFrameStart) := ofNone rfl

theorem line (pixels : List Pixel) : Statement (.line pixels) := ofNone rfl

theorem mixerFrameEnd : Statement (.mixerFrameEnd) := ofNone rfl

theorem storeFrameEnd : Statement (.storeFrameEnd) := ofNone rfl

theorem navFrameEnd : Statement (.navFrameEnd) := ofNone rfl

theorem activationExpiry (c : NavCtx) : Statement (.activationExpiry c) := ofNone rfl

theorem playheadStep (c : NavCtx) (button : Nat) : Statement (.playheadStep c button) := ofNone rfl

theorem sequencerFrameEnd : Statement (.sequencerFrameEnd) := ofNone rfl

theorem dwellExpiry : Statement (.dwellExpiry) := ofNone rfl

theorem slideReady : Statement (.slideReady) := ofNone rfl

theorem lateSlide : Statement (.lateSlide) := ofNone rfl

theorem timeTrigger : Statement (.timeTrigger) := ofNone rfl

theorem readStrobe : Statement (.readStrobe) := ofNone rfl

theorem resetNAsserted : Statement (.resetNAsserted) := ofNone rfl

theorem resetNReleased : Statement (.resetNReleased) := ofNone rfl

end Sys2Proof.Laws.SegmentBody
end

