-- ==== Sys2Proof/Laws/Reports.lean ====
section
/-! SUPPORT. The report queue: all that raising a report can do to the report unit (R168, R170). -/

namespace Sys2Proof.Machine

open Sys2Proof

/-- R168, R170: a raised report joins a queue with room, taking the lost flag with it, and ATTN is tested; on a full queue
it is discarded and the lost flag is set. -/
theorem ReportUnit.enqueue_cases (u : ReportUnit) (fc : FrameCount) (b : ReportBody) :
    (u.queue.length < Config.maxReports ∧
      u.enqueue fc b =
        { u with
          queue := u.queue ++ [{ lost := u.lost, fc := fc, body := b }], lost := false
          attn := u.queue.any (enabledIn u.mask) || enabledIn u.mask { lost := u.lost, fc := fc, body := b } }) ∨
    (Config.maxReports ≤ u.queue.length ∧ u.enqueue fc b = { u with lost := true }) := by
  unfold ReportUnit.enqueue
  split_ifs with h
  · exact .inl ⟨h, by simp [ReportUnit.testAttn]⟩
  · exact .inr ⟨by omega, rfl⟩

@[simp] theorem ReportUnit.enqueue_mask (u : ReportUnit) (fc : FrameCount) (b : ReportBody) :
    (u.enqueue fc b).mask = u.mask := by
  obtain ⟨_, e⟩ | ⟨_, e⟩ := u.enqueue_cases fc b <;> rw [e]

@[simp] theorem ReportUnit.enqueue_readPos (u : ReportUnit) (fc : FrameCount) (b : ReportBody) :
    (u.enqueue fc b).readPos = u.readPos := by
  obtain ⟨_, e⟩ | ⟨_, e⟩ := u.enqueue_cases fc b <;> rw [e]

@[simp] theorem ReportUnit.enqueue_port (u : ReportUnit) (fc : FrameCount) (b : ReportBody) :
    (u.enqueue fc b).port = u.port := by
  obtain ⟨_, e⟩ | ⟨_, e⟩ := u.enqueue_cases fc b <;> rw [e]

/-- The queue keeps its limit of 16 (R166). -/
theorem ReportUnit.enqueue_bound {u : ReportUnit} (h : u.queue.length ≤ Config.maxReports) (fc : FrameCount)
    (b : ReportBody) : (u.enqueue fc b).queue.length ≤ Config.maxReports := by
  obtain ⟨h', e⟩ | ⟨_, e⟩ := u.enqueue_cases fc b <;> rw [e]
  · simpa using h'
  · exact h

/-- The head of a queue that is not empty stands. -/
theorem ReportUnit.enqueue_head {u : ReportUnit} (h : u.queue ≠ []) (fc : FrameCount) (b : ReportBody) :
    (u.enqueue fc b).queue.head? = u.queue.head? := by
  obtain ⟨_, e⟩ | ⟨_, e⟩ := u.enqueue_cases fc b <;> rw [e]
  cases hq : u.queue with
  | nil => exact absurd hq h
  | cons r l => rfl

/-- ATTN stays asserted exactly while an enabled report waits (R170). -/
theorem ReportUnit.enqueue_attn {u : ReportUnit} (h : u.attn = u.queue.any (enabledIn u.mask)) (fc : FrameCount)
    (b : ReportBody) : (u.enqueue fc b).attn = (u.enqueue fc b).queue.any (enabledIn (u.enqueue fc b).mask) := by
  obtain ⟨_, e⟩ | ⟨_, e⟩ := u.enqueue_cases fc b <;> rw [e]
  · simp
  · exact h

end Sys2Proof.Machine
end

