-- ==== Sys2Proof/Laws/Segments.lean ====
section
/-! SUPPORT. What a segment command does, in one equation for each way the router can take its segment (1.3, 1.4). -/

namespace Sys2Proof.Machine

open Sys2Proof

/-! ### HOLD -/

theorem holdLevel_idem (a b : Nat) (h : Bool) : holdLevel a b (holdLevel a b h) = holdLevel a b h := by
  unfold holdLevel
  split
  · rfl
  · split <;> rfl

/-! ### The receiver as stuffed bytes go by -/

@[simp] theorem Port.hunted_rx (p : Port) (n : Fin 3) : (p.hunted n).rx = p.rx := by unfold Port.hunted; split <;> rfl

@[simp] theorem Port.hunted_queue (p : Port) (n : Fin 3) : (p.hunted n).queue = p.queue := by
  unfold Port.hunted; split <;> rfl

@[simp] theorem Port.hunted_hold (p : Port) (n : Fin 3) : (p.hunted n).hold = p.hold := by
  unfold Port.hunted; split <;> rfl

/-- In HUNT the FF count is set. -/
theorem Port.hunted_hunt {p : Port} (h : p.rx = .hunt) (n : Fin 3) : p.hunted n = { p with ffCount := n } := by
  unfold Port.hunted; rw [h]

/-- In reception, or in a skip, nothing changes. -/
theorem Port.hunted_other {p : Port} (h : p.rx ≠ .hunt) (n : Fin 3) : p.hunted n = p := by
  unfold Port.hunted; split
  · exact absurd ‹_› h
  · rfl
  · rfl
  · rfl

@[simp] theorem Port.hunted_segTotal (p : Port) (n : Fin 3) : (p.hunted n).segTotal = p.segTotal := by
  simp [Port.segTotal]

@[simp] theorem Port.hunted_byteTotal (p : Port) (n : Fin 3) : (p.hunted n).byteTotal = p.byteTotal := by
  simp [Port.byteTotal]

@[simp] theorem Port.rise_rx (p : Port) (n : Nat) : (p.rise n).rx = p.rx := Port.hunted_rx p 0

@[simp] theorem Port.rise_queue (p : Port) (n : Nat) : (p.rise n).queue = p.queue := Port.hunted_queue p 0

@[simp] theorem Port.rise_segTotal (p : Port) (n : Nat) : (p.rise n).segTotal = p.segTotal := by simp [Port.segTotal]

@[simp] theorem Port.rise_byteTotal (p : Port) (n : Nat) : (p.rise n).byteTotal = p.byteTotal := by
  simp [Port.byteTotal]

theorem Port.visit_eq (p : Port) (n : Nat) :
    p.visit n =
      { p.hunted 0 with
        hold := holdLevel p.segTotal p.byteTotal (holdLevel (p.segTotal + 1) (p.byteTotal + n) p.hold) } := by
  simp only [Port.visit, Port.testHold, Port.rise_segTotal, Port.rise_byteTotal]
  rfl

/-- One segment more in the queue. -/
theorem Port.joined_segTotal (p : Port) (g : Segment) :
    ({ p with queue := p.queue ++ [g] } : Port).segTotal = p.segTotal + 1 := by
  cases h : p.rx <;> simp [Port.segTotal, h]

/-- Its body bytes more in the queue. -/
theorem Port.joined_byteTotal (p : Port) (g : Segment) :
    ({ p with queue := p.queue ++ [g] } : Port).byteTotal = p.byteTotal + g.body.length := by
  cases h : p.rx <;> simp [Port.byteTotal, h]
  omega

/-- A port whose queue is extended, HOLD tested. -/
theorem Port.testHold_joined (p : Port) (g : Segment) :
    Port.testHold { p with queue := p.queue ++ [g] } =
      { p with queue := p.queue ++ [g], hold := holdLevel (p.segTotal + 1) (p.byteTotal + g.body.length) p.hold } := by
  simp only [Port.testHold, Port.joined_segTotal, Port.joined_byteTotal]

/-- A segment that joins an empty queue and leaves it: HOLD is tested twice (R11). -/
theorem Port.testHold_left {p : Port} (hq : p.queue = []) (g : Segment) :
    Port.testHold { Port.testHold { p with queue := p.queue ++ [g] } with queue := [] } =
      { p with
        hold := holdLevel p.segTotal p.byteTotal
          (holdLevel (p.segTotal + 1) (p.byteTotal + g.body.length) p.hold) } := by
  rw [Port.testHold_joined]
  obtain ⟨rx, n, q, h⟩ := p
  obtain rfl : q = [] := hq
  rfl

/-- A segment that joins an empty queue and leaves it (R11). -/
theorem leaveHead_joined {s : State} (hq : s.port.queue = []) (g : Segment) :
    leaveHead (joined s g) = visited s g.body.length := by
  have e : leaveHead (joined s g) = s.setPort (Port.testHold { Port.testHold
      { s.port.hunted 0 with queue := (s.port.hunted 0).queue ++ [g] } with queue := [] }) := by
    simp [leaveHead, joined, State.setPort, Port.testHold, hq]
  rw [e, Port.testHold_left (by simp [hq]), visited, Port.visit_eq]
  simp

/-- Joining the queue tests HOLD at the totals that the segment's arrival reached (R11). -/
theorem joinQueue_rise (g : Segment) (s : State) :
    joinQueue g (s.setPort (s.port.rise g.body.length)) = joined s g := by
  have e : joinQueue g (s.setPort (s.port.rise g.body.length)) =
      s.setPort (Port.testHold { s.port.rise g.body.length with queue := (s.port.rise g.body.length).queue ++ [g] }) := rfl
  have f : joined s g =
      s.setPort (Port.testHold { s.port.hunted 0 with queue := (s.port.hunted 0).queue ++ [g] }) := by
    simp [joined, State.setPort]
  rw [e, f, Port.testHold_joined, Port.testHold_joined, Port.rise_segTotal, Port.rise_byteTotal]
  simp [Port.rise, holdLevel_idem]

/-! ### The segment of each command

Stated one by one, so that no proof unfolds the match over all commands. -/

@[simp] theorem segmentOf_setOpen (b : List Byte) : segmentOf (.setOpen b) = some ⟨.setOpen, b⟩ := rfl
@[simp] theorem segmentOf_objectDataFirst (id : Half) (r : List Byte) :
    segmentOf (.objectDataFirst id r) = some ⟨.objectData, fragmentBody .first id r⟩ := rfl
@[simp] theorem segmentOf_objectDataOnly (id : Half) (r : List Byte) :
    segmentOf (.objectDataOnly id r) = some ⟨.objectData, fragmentBody .only id r⟩ := rfl
@[simp] theorem segmentOf_objectDataMiddle (id : Half) (r : List Byte) :
    segmentOf (.objectDataMiddle id r) = some ⟨.objectData, fragmentBody .middle id r⟩ := rfl
@[simp] theorem segmentOf_objectDataLast (id : Half) (r : List Byte) :
    segmentOf (.objectDataLast id r) = some ⟨.objectData, fragmentBody .last id r⟩ := rfl
@[simp] theorem segmentOf_objectDrop (b : List Byte) : segmentOf (.objectDrop b) = some ⟨.objectDrop, b⟩ := rfl
@[simp] theorem segmentOf_paletteHold (p : BitVec 4) (n : BitVec 9) (t : FrameCount) (e : List Byte) :
    segmentOf (.paletteHold p n t e) = some ⟨.palette, paletteBody .hold p n t e⟩ := rfl
@[simp] theorem segmentOf_paletteNext (p : BitVec 4) (n : BitVec 9) (t : FrameCount) (e : List Byte) :
    segmentOf (.paletteNext p n t e) = some ⟨.palette, paletteBody .next p n t e⟩ := rfl
@[simp] theorem segmentOf_paletteAt (p : BitVec 4) (n : BitVec 9) (t : FrameCount) (e : List Byte) :
    segmentOf (.paletteAt p n t e) = some ⟨.palette, paletteBody .atTime p n t e⟩ := rfl
@[simp] theorem segmentOf_paletteDiscard (p : BitVec 4) (n : BitVec 9) (t : FrameCount) (e : List Byte) :
    segmentOf (.paletteDiscard p n t e) = some ⟨.palette, paletteBody .discard p n t e⟩ := rfl
@[simp] theorem segmentOf_pageSegment (b : List Byte) : segmentOf (.pageSegment b) = some ⟨.page, b⟩ := rfl
@[simp] theorem segmentOf_buttons (b : List Byte) : segmentOf (.buttons b) = some ⟨.buttons, b⟩ := rfl
@[simp] theorem segmentOf_animations (b : List Byte) : segmentOf (.animations b) = some ⟨.animations, b⟩ := rfl
@[simp] theorem segmentOf_scroll (b : List Byte) : segmentOf (.scroll b) = some ⟨.scroll, b⟩ := rfl
@[simp] theorem segmentOf_showSegment (b : List Byte) : segmentOf (.showSegment b) = some ⟨.showPage, b⟩ := rfl
@[simp] theorem segmentOf_slideList (b : List Byte) : segmentOf (.slideList b) = some ⟨.slideList, b⟩ := rfl
@[simp] theorem segmentOf_key (b : List Byte) : segmentOf (.key b) = some ⟨.key, b⟩ := rfl
@[simp] theorem segmentOf_flags (b : List Byte) : segmentOf (.flags b) = some ⟨.flags, b⟩ := rfl
@[simp] theorem segmentOf_clock (b : List Byte) : segmentOf (.clock b) = some ⟨.clock, b⟩ := rfl
@[simp] theorem segmentOf_output (b : List Byte) : segmentOf (.output b) = some ⟨.output, b⟩ := rfl
@[simp] theorem segmentOf_configure (r : List Byte) :
    segmentOf (.configure r) = some ⟨.slideControl, SlideOp.configure.code :: r⟩ := rfl
@[simp] theorem segmentOf_arm (r : List Byte) : segmentOf (.arm r) = some ⟨.slideControl, SlideOp.arm.code :: r⟩ := rfl
@[simp] theorem segmentOf_disarm (r : List Byte) :
    segmentOf (.disarm r) = some ⟨.slideControl, SlideOp.disarm.code :: r⟩ := rfl
@[simp] theorem segmentOf_slideStart (r : List Byte) :
    segmentOf (.slideStart r) = some ⟨.slideControl, SlideOp.start.code :: r⟩ := rfl
@[simp] theorem segmentOf_slideStop (r : List Byte) :
    segmentOf (.slideStop r) = some ⟨.slideControl, SlideOp.stop.code :: r⟩ := rfl
@[simp] theorem segmentOf_slidePause (r : List Byte) :
    segmentOf (.slidePause r) = some ⟨.slideControl, SlideOp.pause.code :: r⟩ := rfl
@[simp] theorem segmentOf_slideResume (r : List Byte) :
    segmentOf (.slideResume r) = some ⟨.slideControl, SlideOp.resume.code :: r⟩ := rfl
@[simp] theorem segmentOf_slideNext (r : List Byte) :
    segmentOf (.slideNext r) = some ⟨.slideControl, SlideOp.next.code :: r⟩ := rfl
@[simp] theorem segmentOf_slidePrev (r : List Byte) :
    segmentOf (.slidePrev r) = some ⟨.slideControl, SlideOp.prev.code :: r⟩ := rfl
@[simp] theorem segmentOf_statusRequest (b : List Byte) : segmentOf (.statusRequest b) = some ⟨.statusRequest, b⟩ := rfl
@[simp] theorem segmentOf_attentionMask (b : List Byte) : segmentOf (.attentionMask b) = some ⟨.attentionMask, b⟩ := rfl
@[simp] theorem segmentOf_restart (b : List Byte) : segmentOf (.restart b) = some ⟨.restart, b⟩ := rfl

/-! ### The commands -/

/-- A segment command presents its segment to the port, unless the part is held (R18). -/
theorem exec_segmentOf {c : Instr} {g : Segment} (h : segmentOf c = some g) (s : State) :
    exec c s = .next (unlessHeld (present g) s) := by
  cases c <;> first | exact nomatch (h : none = some g) | (obtain rfl := Option.some.inj h; rfl)

/-- An accepted segment is routed (R6, R10). -/
theorem present_accepted {g : Segment} {s : State} (h : Accepts s g.body.length) :
    present g s = routeSegment g (s.setPort (s.port.rise g.body.length)) := by
  obtain ⟨_, h2, h3, h4⟩ := h
  have : arrivalRefusal g s.port = none := by
    simp only [arrivalRefusal]
    rw [if_neg (by omega), if_neg (by omega), if_neg (by omega)]
  simp [present, this]

/-- An express segment is taken at once (R13). -/
theorem exec_express {c : Instr} {g : Segment} {s : State} (h : segmentOf c = some g) (hx : g.kind.express = true)
    (ha : Accepts s g.body.length) : exec c s = .next (takeSegment g (visited s g.body.length)) := by
  rw [exec_segmentOf h, unlessHeld, ha.1]
  simp [present_accepted ha, routeSegment, hx, visited, Port.visit, State.setPort]

/-- A content segment that arrives while the decoder is busy waits (R14). -/
theorem exec_content_waits {c : Instr} {g : Segment} {s : State} (h : segmentOf c = some g)
    (hx : g.kind.express = false) (ha : Accepts s g.body.length) (hb : s.decoder.busy = true) :
    exec c s = .next (joined s g) := by
  rw [exec_segmentOf h, unlessHeld, ha.1]
  have hd : (joined s g).decoder.busy = true := hb
  simp [present_accepted ha, routeSegment, hx, joinQueue_rise, drainContent, hd]

/-- A content segment of a kind other than Object Data is taken as it arrives while the decoder is free (R14). -/
theorem exec_content_free {c : Instr} {g : Segment} {s : State} (h : segmentOf c = some g)
    (hx : g.kind.express = false) (hk : g.kind ≠ .objectData) (ha : TakesContent s g.body.length) :
    exec c s = .next (takeSegment g (visited s g.body.length)) := by
  obtain ⟨ha, hb, hq⟩ := ha
  rw [exec_segmentOf h, unlessHeld, ha.1]
  have hd : (joined s g).decoder.busy = false := hb
  have hj : (joined s g).port.queue = [g] := by simp [joined, Port.testHold, hq]
  have hl := leaveHead_joined hq g
  simp [present_accepted ha, routeSegment, hx, joinQueue_rise, Port.rise_queue, hq, drainContent, hd, hj, hk, hl]

/-- An Object Data segment that arrives while the decoder is free (R14, R40): a fragment that the decoder goes on to decode
stays in the queue, any other leaves as it is taken. -/
theorem exec_fragment_free {c : Instr} {g : Segment} {s : State} (h : segmentOf c = some g) (hk : g.kind = .objectData)
    (ha : TakesContent s g.body.length) :
    exec c s = .next
      (if (takeFragment g.body (joined s g)).decoder.busy then takeFragment g.body (joined s g)
       else leaveHead (takeFragment g.body (joined s g))) := by
  obtain ⟨ha, hb, hq⟩ := ha
  rw [exec_segmentOf h, unlessHeld, ha.1]
  have hd : (joined s g).decoder.busy = false := hb
  have hj : (joined s g).port.queue = [g] := by simp [joined, Port.testHold, hq]
  have hx : g.kind.express = false := by rw [hk]; rfl
  simp [present_accepted ha, routeSegment, joinQueue_rise, Port.rise_queue, hq, drainContent, hd, hj, hk, Kind.express]

end Sys2Proof.Machine
end

