-- ==== Sys2Proof/Tests/Slice0.lean ====
section
/-! SUPPORT. Tests: ill-formed commands refused, worked examples of the spec (the section of each stands beside it), and a
witness for the hypotheses of every statement of `Certificates/Slice0/Obligations.lean` that has any. -/

namespace Sys2Proof.Tests

open Sys2Proof Sys2Proof.Machine

/-! ### Helpers -/

/-- The next state of an outcome, or the state after reset where it stopped. -/
def after (o : Host.Outcome State Fault Refusal) : State :=
  match o with
  | .next t => t
  | _ => State.reset

/-- The state after reset with one field changed by `f` on the engine. -/
def withEngine (f : Engine → Engine) : State := State.reset.setEngine (f Engine.reset)

/-- The state after reset with the sequencer changed by `f`. -/
def withSeq (f : Sequencer → Sequencer) : State := State.reset.setSeq (f Sequencer.reset)

/-- A version with a given chain. -/
def ver (n : Byte) (w h : Nat) (d : Depth) (chain : List Granule) : Version :=
  { number := n, width := w, height := h, depth := d, fault := false, chain := chain }

/-- A button of placement 0 with the given action and no other feature. -/
def plainButton (placement : Nat) (action : Action) : Button :=
  { placement := placement, number := none, up := none, down := none, left := none, right := none, mode := .none,
    cond := { mask := 0, compare := 0 }, normal := .keep, selected := .keep, activated := .keep, disabled := .keep,
    auto := false, action := action, notify := none }

/-- A slide entry of page 0 that is always eligible. -/
def plainSlide : SlideEntry :=
  { page := 0, duration := 1, trans := .cut, cue := none, cond := { mask := 0, compare := 0 } }

/-- A page record that is defined and holds the given definition. -/
def definedPage (d : PageDef) : Page := { defined := true, cur := d, waiting := none }

/-- A load record at its start. -/
def load0 (k : ObjId) : Load := newLoad k 1 10 4 .d4

/-! ### WellFormed: an ill-formed command refused by each check -/

theorem test_wf_body : (Instr.key (List.replicate 4001 0)).wellFormed = false := by decide +kernel

theorem test_wf_fragment : (Instr.objectDataMiddle 0 (List.replicate 3998 0)).wellFormed = false := by
  decide +kernel

theorem test_wf_palette : (Instr.paletteNext 0 0 0 (List.replicate 3995 0)).wellFormed = false := by
  decide +kernel

theorem test_wf_control : (Instr.slideNext (List.replicate 4000 0)).wellFormed = false := by decide +kernel

theorem test_wf_playhead : (Instr.playheadStep .menu 24).wellFormed = false := by decide

/-! ### Worked examples of the spec -/

/-- 1.5, a body of four FF bytes: the flags word becomes 0xFFFF and the receiver is in HUNT. -/
theorem test_four_ff_bytes :
    (let t := after (strobe [0xFF, 0xFF, 0x5A, 0x21, 0x01, 0x00, 0x04, 0xFF, 0xFF, 0x00, 0xFF, 0xFF, 0x00] State.reset)
     (t.nav.flags, t.port)) = (0xFFFF, Port.reset false) := by decide

/-- 1.1, 1.5: the bytes of a Flags segment with its stuffing, and their effect beside the command's. -/
theorem test_wire :
    wireBytes 1 ⟨.flags, [0xFF, 0xFF, 0x12, 0x34]⟩ =
        [0xFF, 0xFF, 0x5A, 0x21, 0x01, 0x00, 0x04, 0xFF, 0xFF, 0x00, 0x12, 0x34] ∧
      (let t := after (strobe (wireBytes 1 ⟨.flags, [0xFF, 0xFF, 0x12, 0x34]⟩) State.reset)
       let u := after (exec (.flags [0xFF, 0xFF, 0x12, 0x34]) State.reset)
       t.nav = u.nav ∧ t.seq = u.seq ∧ t.port = u.port ∧ t.report = u.report ∧ t.nav.flags = 0xFFFF) := by decide

/-- 1.5: a marker truncates a Page after 59 body bytes; TRUNCATED counts 63 bytes. -/
theorem test_truncated :
    ((after (strobe [0xFF, 0xFF, 0x5A] (State.reset.setPort { Port.reset false with
      rx := .body { kind := 0x14, source := 0, length := 200 } (List.replicate 57 1) }))).report.queue.map
        Report.body) = [.restartDone .pin 0x37, .truncated 0x14 63] := by decide

/-- 1.5: a framing violation in an Object Data fragment. -/
theorem test_framing :
    (let t := after (strobe [0xFF, 0xFF, 0x07] (State.reset.setPort { Port.reset false with
      rx := .body { kind := 0x11, source := 0, length := 3000 } [1, 2] }))
     (t.port.rx, t.report.queue.map Report.body)) = (.hunt, [.restartDone .pin 0x37, .framing 0x11 8]) := by decide

/-- R2, R8: a segment given into HUNT leaves FF count 0, whatever the count was. -/
theorem test_hunt_count :
    (after (exec (.key [4, 0, 0]) (State.reset.setPort { Port.reset false with ffCount := 2 }))).port.ffCount = 0 := by
  decide

/-- R63, R64, R68: the palette unit takes a frame start that gives FC 1, a Clock of 100 comes, and the engine takes that
frame start: it gives 1, and 100 stays for the following one. -/
theorem test_clock_between_blocks :
    (let s := after (exec (.clock [0, 0, 0, 100]) (after (exec .paletteFrameStart State.reset)))
     (s.engineStartFc, s.clockLeft, (moveClock s).engine.nextFc)) = (1, some 100, 100) := by decide +kernel

/-- R11 and 1.5: HOLD at 12,288 bytes, kept at 8,288, released at 8,000. -/
theorem test_hold : (holdLevel 4 12288 false, holdLevel 3 8288 true, holdLevel 2 8000 true) = (true, true, false) := by
  decide

/-- 2.2, worked layouts: stride, bytes, granules. -/
theorem test_layouts :
    [(strideOf 200 .d8, objectBytes 200 60 .d8, granulesNeeded 200 60 .d8),
     (strideOf 300 .d4, objectBytes 300 200 .d4, granulesNeeded 300 200 .d4),
     (strideOf 1920 .d8, objectBytes 1920 1080 .d8, granulesNeeded 1920 1080 .d8)] =
    [(200, 12000, 3), (152, 30400, 8), (1920, 2073600, 507)] := by decide

/-- 2.2: pixel (77, 130) of the 300 × 200 depth-4 object, in chain entry 4 at offset 3,414. -/
theorem test_pixel_address :
    (pixelOffset 300 .d4 77 130, chainAddr [9, 8, 7, 6, 5] (pixelOffset 300 .d4 77 130)) =
      (19798, some (5 * 4096 + 3414)) := by decide

/-- 3.7: the code bytes of object 40's three fragments, decoded. -/
def object40 : Canvas :=
  match Canvas.consumeAll [0x42, 0x05, 0x03, 0x01, 0x02, 0x03, 0x14, 0x80, 0x0B, 0x07, 0xA1, 0x01, 0xA0, 0xA2]
      { load := load0 40, chain := [0], mem := [], fault := false } with
  | .all c => c.close
  | .damaged c => c

/-- 3.7: rows 0 to 2 are 5 5 5 5 1 2 3 4 7 7 and row 3 is index 0; the fault flag is set. -/
theorem test_object40_rows :
    ((List.range 8).map (chainRead object40.mem [0]), (List.range 8).map (fun i => chainRead object40.mem [0] (16 + i)),
      (List.range 8).map (fun i => chainRead object40.mem [0] (24 + i)), object40.fault) =
    ([0x55, 0x55, 0x12, 0x34, 0x77, 0, 0, 0], [0x55, 0x55, 0x12, 0x34, 0x77, 0, 0, 0], [0, 0, 0, 0, 0, 0, 0, 0],
      true) := by decide +kernel

/-- 3.8: an invalid code byte damages the load. -/
theorem test_damaged :
    (match Canvas.consumeAll [0xA0, 0xA0, 0xC4] { load := load0 41, chain := [0], mem := [], fault := false } with
     | .damaged c => some c.load.row
     | .all _ => none) = some 2 := by decide

/-- 4.6: Y 250 is clamped to 235 and Cr 250 to 240. -/
theorem test_clamp : (clampByte 16 235 250, clampByte 16 240 250, clampByte 16 240 3) = (235, 240, 16) := by decide

/-- 5.1, worked cases of the due rule. -/
theorem test_due :
    [isDue 1000 1000, isDue 1000 990, isDue 1000 1003, isDue 0xFFFFFFF0 4, isDue 4 4, isDue 4 0xFFFFFFF0] =
      [true, true, false, false, true, true] ∧ lateness 4 0xFFFFFFF0 = 20 := by decide

/-- 5.7: the fades of N = 3 and N = 4, and the wipe boundary of W = 1920, N = 8, step 3. -/
theorem test_fades :
    ((List.range 3).map fun j => crossfadeStep 3 (j + 1)) = [85, 170, 255] ∧
      ((List.range 4).map fun j => crossfadeStep 4 (j + 1)) = [64, 128, 191, 255] ∧ wipeBoundary 1920 8 3 = 720 := by
  decide

/-- An entry of 5.9's schedule. -/
def entry59 (c : Ctx) (p : PageId) (t : Option FrameCount) (o : Origin) : ShowEntry :=
  { ctx := c, page := some p, time := t, trans := .cut, origin := o, restore := none, late := false }

/-- 5.9: at FC 1000 the schedule of six entries; MENU's winner is page 7 and three entries are superseded in order. -/
theorem test_crowded_schedule :
    (let e := { Engine.reset with
       fc := 1000
       schedule := [entry59 .menu 5 (some 990) .segment, entry59 .slide 8 (some 1000) .segment,
         entry59 .menu 6 (some 998) .segment, entry59 .menu 9 none .navigation, entry59 .menu 7 (some 1000) .segment,
         entry59 .popup 12 (some 1003) .segment] }
     ((winner 1000 .menu (dueEntries e)).map fun x => x.2.page, (losers 1000 (dueEntries e)).map ShowEntry.page)) =
    (some (some 7), [some 5, some 6, some 9]) := by decide

/-- 5.10: a transition of length 4 at step 3 goes to step 4, and at step 4 it ends. -/
theorem test_transition :
    (let s := fun j => withEngine fun e => e.setCtx .menu (.transition (some 4) (some 2) .crossfade 4 j)
     ((stepContext .menu (s 3)).engine.contexts.menu, (stepContext .menu (s 4)).engine.contexts.menu)) =
    (.transition (some 4) (some 2) .crossfade 4 4, .showing 4) := by decide

/-- 6.4, worked mapping: the window (40, 20, 201, 100) against 300 × 200 and against 120 × 200. -/
theorem test_clamped_window :
    (clampSide 300 40 201, clampSide 200 20 100, clampSide 120 40 201, ceilDiv 201 2) =
      ((40, 201), (20, 100), (40, 80), 101) := by decide

/-- A span of a given width. -/
def spanOfWidth (w : Nat) : Span :=
  { lo := 0, hi := w, x0 := 0, wx := 0, row := 0, k := 1, version := ver 0 1 1 .d8 [], palette := 0, opacity := 255,
    fade := 255 }

/-- 6.5, admission under pressure: seven spans of 2,760 columns, two dropped. -/
theorem test_admission :
    (let a := admitSpans 1920 ([600, 600, 800, 120, 120, 120, 1600, 400, 1920].map spanOfWidth)
     (a.spans.length, a.total, a.dropped)) = (7, 2760, 2) := by decide

/-- 6.6, worked blends. -/
theorem test_blends :
    [(effectiveAlpha 200 255 128, blendComponent 100 180 60), (effectiveAlpha 255 128 255, blendComponent 128 235 16),
     (effectiveAlpha 128 128 255, blendComponent 64 235 16), (effectiveAlpha 1 255 255, blendComponent 1 235 16)] =
    [(100, 107), (128, 126), (64, 71), (1, 17)] := by decide

/-- 7.9: six buttons in two rows; RIGHT from button 0 with 1 hidden and 2 disabled comes back to 0, and finds 2 once it is
selectable. -/
def page79 : PageDef :=
  { PageDef.blank with
    buttons := [{ plainButton 0 .none with right := some 1, down := some 3 },
      { plainButton 1 .none with right := some 2, down := some 4 },
      { plainButton 2 .none with right := some 0, down := some 5 }, plainButton 3 .none] }

/-- A navigation state with buttons in the given states. -/
def navOf (l : List ButtonState) : NavState :=
  { NavState.reset with buttons := l.map fun x => { state := x, head := none } }

theorem test_search :
    (searchMove page79 (navOf [.selected, .hidden, .disabled, .normal]) .right 0 24 0,
      searchMove page79 (navOf [.selected, .hidden, .normal, .normal]) .right 0 24 0,
      searchMove page79 (navOf [.selected, .hidden, .normal, .normal]) .down 0 24 0) = (none, some 2, some 3) := by decide

/-- R140: a push onto a full stack drops its oldest entry. -/
theorem test_push :
    pushStack (9, none) [(0, none), (1, none), (2, none), (3, none), (4, none), (5, none), (6, none), (7, none)] =
      [(1, none), (2, none), (3, none), (4, none), (5, none), (6, none), (7, none), (9, none)] := by decide

/-- R126: a LOOP animation of holds 2 and 1 comes back to entry 0; a ONCE animation stays on its last entry. -/
theorem test_playhead :
    (let es : List AnimEntry := [{ obj := none, hold := 2 }, { obj := none, hold := 1 }]
     (Playhead.step { mode := .loop, entries := es } { entry := 1, left := 1, fresh := false },
      Playhead.step { mode := .once, entries := es } { entry := 1, left := 1, fresh := false })) =
    ({ entry := 0, left := 2, fresh := false }, { entry := 1, left := 0, fresh := false }) := by decide

/-- R153, R160: the scan orders of a list of four entries. -/
theorem test_scan_orders :
    (forwardOrder 4 true (some 1), forwardOrder 4 false (some 1), backwardOrder 4 true 1, startOrder 4 true 2) =
      ([2, 3, 0, 1], [2, 3], [0, 3, 2], [2, 3, 0, 1]) := by decide

/-- 8.9: START on an armed list starts the run with STARTED (0, COMMAND). -/
theorem test_start :
    (let s := (withSeq fun q => { q with run := .armed, list := [plainSlide] }).setEngine
       (Engine.reset.setPage 0 (definedPage .blank))
     let t := after (exec (.slideStart []) s)
     (t.seq.run, t.seq.target, t.report.queue.map Report.body)) =
    (.running, some { entry := 0, ready := false, wait := 0 }, [.restartDone .pin 0x37, .started 0 .command]) := by
  decide

/-- R153, R160: NEXT from entry 1 of a LOOP list of three skips entry 2, whose page is undefined, and goes round to entry
0. -/
theorem test_next_wraps :
    (let s := (withSeq fun q => { q with
         run := .running, shown := some 1, list := [plainSlide, plainSlide, { plainSlide with page := 9 }]
         config := { q.config with endMode := .loop } }).setEngine (Engine.reset.setPage 0 (definedPage .blank))
     let t := after (exec (.slideNext []) s)
     (t.seq.target, t.report.queue.map Report.body)) =
    (some { entry := 0, ready := false, wait := 0 }, [.restartDone .pin 0x37, .entrySkipped 2 9]) := by decide

/-- 11.9: the bytes of SHOWN (MENU, 3) at FC 0x29. -/
theorem test_shown_bytes :
    Report.bytes { lost := false, fc := 0x29, body := .shown .menu (some 3) } =
      [0x08, 0x03, 0x30, 0x00, 0x00, 0x00, 0x29, 0x01, 0x03] := by decide

/-- 9.4: the first read after reset delivers RESTART-DONE's length byte, 8, and ATTN is released at its ninth. -/
theorem test_first_report :
    (let u := fun n => Nat.repeat ReportUnit.read n State.reset.report
     ((u 1).port, (u 8).attn, (u 9).attn, (u 10).port)) = (8, true, false, 0) := by decide

/-- 9.6: a report discarded on a full queue sets the lost flag, which the next report to enter carries. -/
theorem test_lost_flag :
    (let r : Report := { lost := false, fc := 0, body := .shown .menu none }
     let u := { State.reset.report with queue := List.replicate 16 r }
     let u1 := u.enqueue 5 (.overload 1 1)
     let u2 := ({ u1 with queue := u1.queue.tail }).enqueue 6 (.cue 0 1)
     (u1.lost, u1.queue.length, u2.lost, u2.queue.getLast?.map Report.lost)) = (true, 16, false, some true) := by decide

/-- R62: a Palette segment for a scheduled palette is refused, and DISCARD cancels the patch. -/
theorem test_scheduled_patch :
    (let s := State.reset.setPatch (.scheduled 2 [] .nextFrame)
     ((after (exec (.paletteNext 2 0 0 []) s)).palette.patch, (after (exec (.paletteDiscard 2 0 0 []) s)).palette.patch,
      ((after (exec (.paletteDiscard 4 0 0 []) s)).report.queue.map Report.body).getLast?)) =
    (.scheduled 2 [] .nextFrame, .closed, some (.patchBusy 4 2)) := by decide

/-- R14, R43: an ONLY fragment arrives, is decoded, and leaves the queue with READY (11.4). -/
theorem test_only_fragment :
    let s := after (exec (.objectDataOnly 5 [1, 0, 4, 0, 1, 8, 0x42, 0x07, 0xA2]) State.reset)
    let t := after (exec .fragmentComplete s)
    s.decoder.busy = true ∧ s.port.queue.length = 1 ∧ t.decoder = .idle ∧ t.port.queue = [] ∧
      t.report.queue.map Report.body = [.restartDone .pin 0x37, .ready 5 1 false] ∧
      t.mem = [(0, 7), (1, 7), (2, 7), (3, 7)] := by decide +kernel

/-! ### Witnesses: a state and operands that meet the hypotheses of each statement, clause by clause -/

/-- The state after reset with one port receiver, FF count and segment queue. -/
def withPort (rx : Receiver) (ff : Fin 3) (q : List Segment) : State :=
  State.reset.setPort { rx := rx, ffCount := ff, queue := q, hold := false }

/-- The state after reset with a command waiting. -/
def queued : State := { State.reset with pending := [.readStrobe] }

/-- A READY version 7 in slot 3. -/
def readyState : State := State.reset.setStore (Store.reset.setSlot 3 (.ready (ver 7 10 4 .d4 [0])))

/-- A load of object 3 in progress, of a 10 × 4 object of depth 4 in granule 0. -/
def loadingStore : Store := { Store.reset.setSlot 3 (.loading (ver 1 10 4 .d4 [0])) with free := [1, 2] }

/-- An Object Data segment of three bytes. -/
def fragSegment : Segment := ⟨.objectData, [0, 3, 2]⟩

/-- The decoder busy with object 3, its fragment at the head of the queue. -/
def decodingState (pos : Position) (code : List Byte) : State :=
  ((withPort .hunt 0 [fragSegment]).setStore loadingStore).setDecoder (.decoding (load0 3) pos code)

/-- The load of object 3 held between fragments. -/
def awaitState : State := (State.reset.setStore loadingStore).setDecoder (.await (load0 3))

/-- The state after reset accepts, and takes as content, a segment of every length that a body may have. -/
theorem witness_takesContent : ∀ n ≤ 4000, TakesContent State.reset n := by
  intro n h
  refine ⟨⟨rfl, by decide, h, ?_⟩, rfl, rfl⟩
  show 0 + n ≤ 16384
  omega

theorem witness_accepts : ∀ n ≤ 4000, Accepts State.reset n := fun n h => (witness_takesContent n h).1

theorem witness_HeldPartIgnoresEvents :
    (after (exec .resetNAsserted State.reset)).resetLow = true ∧ segmentOf (.key [4, 0, 0]) = some ⟨.key, [4, 0, 0]⟩ :=
  ⟨rfl, rfl⟩

/-- With room, and at the segment limit. -/
theorem witness_ByteInHunt :
    (State.reset.resetLow = false ∧ State.reset.port.rx = .hunt) ∧
      (let s := withPort .hunt 2 (List.replicate 32 fragSegment)
       s.resetLow = false ∧ s.port.rx = .hunt ∧ 32 ≤ s.port.queue.length ∧ s.port.ffCount = 2) := by decide

/-- In HEADER, BODY and SKIP with the queue one short of its limit, and in SKIP with the queue full. -/
theorem witness_ByteAfterTwoFF :
    ∀ x ∈ [(Receiver.header [0x20], 31), (.body ⟨0x14, 0, 200⟩ [1, 2], 31), (.skip ⟨0x77, 0, 9⟩ 3, 31),
        (.skip ⟨0x77, 0, 9⟩ 3, 32)],
      (let s := withPort x.1 2 (List.replicate x.2 fragSegment)
       s.resetLow = false ∧ s.port.rx ≠ .hunt ∧ s.port.ffCount = 2 ∧ s.port.queue.length = x.2) := by decide

theorem witness_HeaderChecks :
    (let s := withPort (.header [0x20, 1, 0]) 1 []
     s.resetLow = false ∧ s.port.rx = .header [0x20, 1, 0] ∧ s.port.ffCount ≠ 2) := by decide

/-- A stored byte, one that completes its segment, one refused there (the byte total is 16,384 with 4 × 4000 and 384
bytes), and a counted one. -/
theorem witness_BodyAndSkipBytes :
    (∀ n ∈ [200, 3],
      let s := withPort (.body ⟨0x14, 0, n⟩ [1, 2]) 0 []
      s.resetLow = false ∧ s.port.ffCount ≠ 2 ∧ s.port.rx = .body ⟨0x14, 0, n⟩ [1, 2] ∧ 2 + 1 ≤ n ∧
        kindOf 0x14 = some .page) ∧
      (let s := withPort (.body ⟨0x14, 0, 385⟩ (List.replicate 384 1)) 0
         (List.replicate 4 ⟨.page, List.replicate 4000 0⟩)
       s.resetLow = false ∧ s.port.ffCount ≠ 2 ∧ 384 + 1 = 385 ∧
         (s.port.queue.map fun g => g.body.length).sum + 384 = 16384) ∧
      (let s := withPort (.skip ⟨0x77, 0, 9⟩ 8) 1 []
       s.resetLow = false ∧ s.port.ffCount ≠ 2 ∧ s.port.rx = .skip ⟨0x77, 0, 9⟩ 8) := by decide +kernel

/-- Each FF count, with room and with the queue full; an express kind and a content kind. -/
theorem witness_SegmentOnTheWire :
    segmentOf (.key [4, 0, 0]) = some ⟨.key, [4, 0, 0]⟩ ∧ segmentOf (.scroll []) = some ⟨.scroll, []⟩ ∧
      Kind.scroll.express = false ∧
      ∀ ff ∈ [(0 : Fin 3), 1, 2], ∀ q ∈ [[], List.replicate 32 fragSegment],
        let p := Port.testHold (withPort .hunt ff q).port
        p.rx = .hunt ∧ p.ffCount = ff ∧ p.byteTotal ≤ 16384 ∧ holdLevel p.segTotal p.byteTotal p.hold = p.hold := by
  decide

theorem witness_ContentWaitsBehindBusyDecoder :
    let s := decodingState .first [0xA0]
    segmentOf (.setOpen [0, 1, 0xFF]) = some ⟨.setOpen, [0, 1, 0xFF]⟩ ∧ Kind.setOpen.express = false ∧ Accepts s 3 ∧
      s.decoder.busy = true := by
  refine ⟨rfl, rfl, ⟨rfl, ?_, ?_, ?_⟩, rfl⟩ <;> decide

/-- A placement of object 3 at the origin. -/
def plainPlacement : Placement :=
  { obj := 3, x := 0, y := 0, palette := 0, opacity := 255, reduction := .one, visible := true, window := none }

/-- Page 5 defined with one placement. -/
def pageState : State := withEngine fun e => e.setPage 5 (definedPage { PageDef.blank with placements := [plainPlacement] })

/-- A body that fails each check of each kind: lengths, ids, flags, modes and ranges one beyond their bounds. The port after
reset meets the premises on it. -/
theorem witness_MalformedBodies :
    (∀ b ∈ [([0, 1, 32] : List Byte), [0, 1, 254], [0, 1]], ¬BodyFits State.reset ⟨.setOpen, b⟩) ∧
      (∀ b ∈ [([2, 0, 1] : List Byte), [0, 3, 4], [0, 3, 0, 1, 0, 1, 0, 1], [0, 3, 0, 1, 0, 0, 0, 1, 4],
        [0, 3, 3, 1, 7, 0x81, 0, 1, 4], [0, 3, 0, 1, 0, 1, 0, 0, 4], [0, 3, 0, 1, 0, 1, 4, 0x39, 4],
        [0, 3, 0, 1, 0, 1, 0, 1, 3]], ¬BodyFits State.reset ⟨.objectData, b⟩) ∧
      (∀ b ∈ [([2, 0] : List Byte), [0]], ¬BodyFits State.reset ⟨.objectDrop, b⟩) ∧
      (∀ b ∈ [([8, 0, 0, 0, 0, 0] : List Byte), [0x40, 0, 0, 0, 0, 0], [0, 1, 0, 0, 0, 0]],
        ¬BodyFits State.reset ⟨.palette, b⟩) ∧
      (∀ b ∈ [([32, 0, 0xFF, 0, 0] : List Byte), [0, 2, 0xFF, 0, 0], [0, 0, 24, 0, 0], [0, 0, 0xFF, 0, 1],
        [0, 0, 0xFF, 0, 1, 2, 0, 0, 0, 0, 0, 0, 0, 1, 0, 0, 0, 0, 0, 0, 0, 0, 0],
        [0, 0, 0xFF, 0, 1, 0, 0, 0, 0, 0, 0, 8, 0, 1, 0, 0, 0, 0, 0, 0, 0, 0, 0],
        [0, 0, 0xFF, 0, 1, 0, 0, 0, 0, 0, 0, 0, 0, 3, 0, 0, 0, 0, 0, 0, 0, 0, 0]],
        ¬BodyFits State.reset ⟨.page, b⟩) ∧
      (∀ b ∈ [([5, 0, 1, 1, 1, 0x02, 0, 1] : List Byte), [5, 0, 1, 2, 1, 0, 7, 4], [5, 0, 1, 1, 1, 0, 7, 0], [5, 0, 1, 1, 0],
        [6, 0, 0], [5, 2, 0]], ¬BodyFits pageState ⟨.animations, b⟩) ∧
      (∀ b ∈ [([6, 0, 0, 0, 0, 0] : List Byte), [5, 1, 0, 0, 0, 0], [32, 0, 0, 0, 0, 0]],
        ¬BodyFits pageState ⟨.scroll, b⟩) ∧
      (∀ b ∈ [([3, 5, 0, 0, 0, 0, 0, 0, 0] : List Byte), [0, 32, 0, 0, 0, 0, 0, 0, 0], [0, 5, 2, 0, 0, 0, 0, 0, 0],
        [0, 5, 0, 0, 0, 0, 0, 3, 0]], ¬BodyFits State.reset ⟨.showPage, b⟩) ∧
      (∀ b ∈ [([0, 4] : List Byte) ++ List.replicate 16 0, [0, 0, 0, 0, 0, 0, 0, 0, 0, 0, 3, 0, 0, 0, 0, 0, 0, 0],
        List.replicate 15 0 ++ [64, 0, 0], List.replicate 16 0 ++ [3, 0], List.replicate 17 0 ++ [2]],
        ¬BodyFits State.reset ⟨.slideList, b⟩) ∧
      (∀ b ∈ [([8, 1, 0] : List Byte), [0, 1, 2], [6, 0, 0], [6, 100, 0]], ¬BodyFits State.reset ⟨.key, b⟩) ∧
      (∀ b ∈ [([3, 16, 128, 128] : List Byte), [0, 16, 128]], ¬BodyFits State.reset ⟨.output, b⟩) ∧
      (∀ b ∈ [([9] : List Byte), [1, 0], [0], [0, 4] ++ List.replicate 15 0], ¬BodyFits State.reset ⟨.slideControl, b⟩) ∧
      ¬BodyFits State.reset ⟨.attentionMask, [128]⟩ ∧ ¬BodyFits State.reset ⟨.restart, [0]⟩ ∧
      State.reset.port.rx = .hunt ∧ holdLevel 0 0 State.reset.port.hold = State.reset.port.hold := by
  refine ⟨?_, ?_, ?_, ?_, ?_, ?_, ?_, ?_, ?_, ?_, ?_, ?_, ?_, ?_, ?_, ?_⟩ <;> decide

/-- A button record of placement 0 with one byte changed. -/
def buttonRecord (at_ : Nat) (x : Byte) : List Byte :=
  (0 :: 0xFF :: List.replicate 29 0).set at_ x

/-- A record that fails each check of a button, against one placement, and a placement named by two. -/
theorem witness_MalformedBodies_buttons :
    (∀ x ∈ [(0, 1), (1, 0), (1, 100), (6, 3), (11, 3), (23, 2), (24, 8)],
      ¬ButtonsFits pageState (5 :: 0 :: 1 :: buttonRecord x.1 (BitVec.ofNat 8 x.2))) ∧
      ¬ButtonsFits pageState (5 :: 0 :: 2 :: buttonRecord 0 0 ++ buttonRecord 0 0) ∧ ¬ButtonsFits pageState [6, 0, 0] :=
  ⟨by
    simp only [List.mem_cons, List.not_mem_nil, or_false, forall_eq_or_imp, forall_eq]
    refine ⟨?_, ?_, ?_, ?_, ?_, ?_, ?_⟩ <;> exact fun h => absurd (h.2.2.2.2.2.1 0 (by decide)) (by decide),
    fun h => absurd (h.2.2.2.2.2.2 1 (by decide) 0 (by decide)) (by decide), fun h => absurd h.2.2.2.2.1 (by decide)⟩

theorem queued_steps : ∃ t, step queued = .next t := ⟨_, rfl⟩

theorem witness_PortLawsKept : PortInv queued :=
  { segments := by decide
    bytes := by decide
    receiver := trivial
    holdTested := fun _ => by decide
    heldPort := fun h => absurd h (by decide)
    head := fun h => absurd h (by decide)
    waits := fun _ => rfl }

theorem queued_slot (k : ObjId) : queued.store.slot k = .empty := by
  simp [queued, State.reset, Store.reset, Store.slot]

theorem witness_StoreLawsKept : StoreInv queued :=
  { law := by
      have : tableJoin (fun _ x => Slot.currentChain x ++ Slot.incomingChain x) queued.store.slots = [] := by
        simp [tableJoin, List.flatMap_eq_nil_iff, queued, State.reset, Store.reset, Slot.currentChain,
          Slot.incomingChain, Slot.current, Slot.incoming]
      rw [Store.granules, this, List.append_nil, queued, State.reset, Store.reset]
    sizedCurrent := fun k v h => by simp [queued_slot, Slot.current] at h
    sizedIncoming := fun k v h => by simp [queued_slot, Slot.incoming] at h
    built := fun k v h => by simp [queued_slot, Slot.building] at h
    held := fun l h => by simp [queued, State.reset, Decoder.load?] at h }

theorem witness_MemoryFormKept : Memory.wf [(0, 5), (8388607, 1)] := by decide

theorem witness_ColourLawsKept : ColourInv queued :=
  { live := fun p ix => by
      have : queued.palette.entry p ix = Entry.reset := by
        simp [queued, State.reset, PaletteUnit.reset, PaletteUnit.entry]
      rw [this]; unfold Entry.Legal LegalColour; decide
    touched := fun x h => by simp [queued, State.reset, PaletteUnit.reset, Patch.touched] at h
    rising := by simp [queued, State.reset, PaletteUnit.reset, Patch.touched]
    fill := by unfold LegalPixel LegalColour; decide
    pendingFill := fun o h => by simp [queued, State.reset, Mixer.reset] at h }

theorem witness_EngineLawsKept : EngineInv queued :=
  { schedule := by decide
    contexts := fun c => by cases c <;> exact trivial
    exclusive := fun c d p h => by cases c <;> exact absurd h (by simp [queued, State.reset, Engine.reset,
      Contexts.reset, Contexts.get, CtxState.pages])
    inUseDefined := fun p h => by simp [queued, State.reset, Engine.reset, Contexts.reset, Contexts.pages,
      CtxState.pages] at h }

theorem witness_NavigationFollowsTheContexts : NavInv queued :=
  { keys := by decide
    menu := ⟨by decide, fun a h => by simp [queued, State.reset, Nav.reset, NavState.reset] at h⟩
    popup := ⟨by decide, fun a h => by simp [queued, State.reset, Nav.reset, NavState.reset] at h⟩
    tables := fun c => by cases c <;> rfl
    menuPage := rfl
    popupPage := rfl
    slidePage := rfl
    flagsCopy := rfl }

theorem witness_SequencerLawsKept : SeqInv queued :=
  { list := by decide
    entries := fun e h => by simp [queued, State.reset, Sequencer.reset] at h
    counting := fun n h => by simp [queued, State.reset, Sequencer.reset] at h
    targetRuns := fun t h => by simp [queued, State.reset, Sequencer.reset] at h
    dwellRuns := fun h => absurd rfl h
    targetEntry := fun t h => by simp [queued, State.reset, Sequencer.reset] at h
    shownEntry := fun i h => by simp [queued, State.reset, Sequencer.reset] at h
    placedEntry := fun x h => by simp [queued, State.reset, Sequencer.reset] at h
    drain := by decide }

theorem witness_ReportLawsKept : ReportInv queued :=
  { bound := by decide, attn := by decide, position := by decide, low := fun h => absurd h (by decide) }

/-- Both forms, at the smallest and the largest object. -/
theorem witness_RepeatedLoadIsSkipped :
    TakesContent readyState (9 + [(0xA0 : Byte)].length) ∧ (∀ l, readyState.decoder ≠ .await l) ∧
      readyState.store.slot 3 = .ready (ver 7 10 4 .d4 [0]) ∧ (ver 7 10 4 .d4 [0]).number = 7 := by
  refine ⟨⟨⟨rfl, ?_, ?_, ?_⟩, rfl, rfl⟩, fun l h => (nomatch h), by simp [readyState, Store.slot, Store.setSlot,
    State.setStore], rfl⟩ <;> decide

theorem witness_LoadWithoutSpaceIsRefused :
    let s := State.reset.setStore { Store.reset with free := [4, 5] }
    TakesContent s (9 + [(0xA0 : Byte)].length) ∧ (∀ l, s.decoder ≠ .await l) ∧ (∀ c, s.store.slot 3 ≠ .ready c) ∧
      s.store.free.length < granulesNeeded 1920 1080 .d8 := by
  refine ⟨⟨⟨rfl, ?_, ?_, ?_⟩, rfl, rfl⟩, fun l h => (nomatch h), fun c h => ?_, ?_⟩
  · decide
  · decide
  · decide
  · simp [State.setStore, Store.slot, Store.reset] at h
  · decide

/-- From EMPTY with a whole free list, and from READY at another version with just enough granules. -/
theorem witness_LoadIsReserved :
    (TakesContent State.reset 9 ∧ (∀ l, State.reset.decoder ≠ .await l) ∧ (∀ c, queued.store.slot 3 ≠ .ready c) ∧
        granulesNeeded 1920 1080 .d8 ≤ State.reset.store.free.length ∧ (queued.store.slot 3).building = none) ∧
      (let s := readyState.setStore { readyState.store with free := [9] }
       s.store.slot 3 = .ready (ver 7 10 4 .d4 [0]) ∧ (7 : Byte) ≠ 8 ∧
         granulesNeeded 10 4 .d4 ≤ s.store.free.length ∧ (s.store.slot 3).building = none) := by
  refine ⟨⟨⟨⟨rfl, ?_, ?_, ?_⟩, rfl, rfl⟩, fun l h => (nomatch h), fun c h => ?_, ?_, ?_⟩, ?_⟩
  · decide
  · decide
  · decide
  · simp [queued_slot] at h
  · decide +kernel
  · simp [queued_slot, Slot.building]
  · simp [readyState, Store.slot, Store.setSlot, State.setStore, Slot.building]; decide

theorem witness_OpeningAbandonsHeldLoad :
    TakesContent awaitState 9 ∧ awaitState.decoder = .await (load0 3) ∧
      (awaitState.store.slot (load0 3).id).building = some (ver 1 10 4 .d4 [0]) := by
  refine ⟨⟨⟨rfl, ?_, ?_, ?_⟩, rfl, rfl⟩, rfl, ?_⟩
  · decide
  · decide
  · decide
  · simp [awaitState, loadingStore, State.setDecoder, State.setStore, Store.slot, Store.setSlot, load0, newLoad,
      Slot.building]

/-- In IDLE, AWAIT and SKIPPING. -/
theorem witness_FollowingFragment :
    TakesContent State.reset 3 ∧ TakesContent awaitState 3 ∧ TakesContent (State.reset.setDecoder (.skipping 3)) 3 := by
  refine ⟨⟨⟨rfl, ?_, ?_, ?_⟩, rfl, rfl⟩, ⟨⟨rfl, ?_, ?_, ?_⟩, rfl, rfl⟩, ⟨⟨rfl, ?_, ?_, ?_⟩, rfl, rfl⟩⟩ <;> decide

/-- A FIRST, a LAST, and a fragment with an invalid code byte, with nothing behind it, and with an Object Drop and a fragment
waiting. -/
theorem witness_FragmentCompletes :
    ∀ x ∈ [(Position.first, [(0xA0 : Byte)]), (.last, [0xA2]), (.middle, [0xFF])],
      ∀ rest ∈ [[], [⟨.objectDrop, [0, 3]⟩, fragSegment]],
      let s0 := decodingState x.1 x.2
      let s := s0.setPort { s0.port with queue := fragSegment :: rest }
      s.resetLow = false ∧ s.decoder = .decoding (load0 3) x.1 x.2 ∧ s.port.queue = fragSegment :: rest ∧
        (s.store.slot (load0 3).id).building = some (ver 1 10 4 .d4 [0]) ∧
        (∀ g ∈ rest, g.kind.express = false ∧ g.body.length ≤ 4000) ∧ rest.length ≤ 31 ∧
        (rest.map fun g => g.body.length).sum ≤ 16384 := by
  intro x _ rest hr
  refine ⟨rfl, rfl, rfl, ?_, ?_⟩
  · simp [decodingState, loadingStore, State.setDecoder, State.setStore, State.setPort, Store.slot, Store.setSlot, load0,
      newLoad, Slot.building]
  · revert rest
    decide

/-- The corners of a 10 × 4 object; a row just filled (column 10); its last row written (row 4); its end flag set; a code pending. -/
theorem witness_CodesWritePixels :
    (∀ x ∈ [((0 : Nat), (0 : Nat)), (3, 9), (3, 10), (4, 0)],
      ∀ code ∈ [none, some PendingCode.copyRows, some (.literal 2)], ∀ ended ∈ [false, true],
      let c : Canvas :=
        { load := { load0 3 with row := x.1, col := x.2, code := code, ended := ended }, chain := [0], mem := [], fault := false }
      x.2 ≤ c.load.width ∧ (x.1 < c.load.height ∨ (x.1 = 4 ∧ c.load.height ≤ x.1)) ∧ c.chain.Nodup ∧
        c.chain.length = granulesNeeded c.load.width c.load.height c.load.depth ∧ c.load.code = code ∧
        c.load.ended = ended) ∧
      [(0x00 : Byte).toNat, (0x3F : Byte).toNat, (0x40 : Byte).toNat, (0x7F : Byte).toNat, (0x80 : Byte).toNat,
        (0x9F : Byte).toNat, (0xA3 : Byte).toNat] = [0, 0x40 - 1, 0x40, 0x80 - 1, 0x80, 0xA0 - 1, 0xA3] := by decide

/-- R45, R46, R48, by hand: at (row 1, column 2) of a 4 × 3 object of depth 2 a long repeat of 3 pixels of index 7 writes 3
at columns 2 and 3, drops the third with a fault, and moves to (2, 0). -/
theorem test_long_repeat :
    (match Canvas.consumeAll [0x80, 2, 7]
        { load := { newLoad 3 1 4 3 .d2 with row := 1, col := 2 }, chain := [0], mem := [], fault := false } with
     | .all c => some (chainRead c.mem [0] (strideOf 4 .d2), c.load.row, c.load.col, c.fault)
     | .damaged _ => none) = some (0x0F, 2, 0, true) := by decide

theorem witness_frames : State.reset.resetLow = false := rfl

/-- A command of each sort that ends in a next state. -/
theorem witness_OnlyTheDecoderWritesMemory :
    ∀ c ∈ [Instr.fragmentComplete, .storeFrameEnd, .resetNAsserted], ∃ t, exec c (decodingState .first [0xA0]) = .next t := by
  simp only [List.mem_cons, List.not_mem_nil, or_false, forall_eq_or_imp, forall_eq]
  exact ⟨⟨_, rfl⟩, ⟨_, rfl⟩, ⟨_, rfl⟩⟩

/-- No entry, and all 256. -/
theorem witness_PaletteSegmentTaken :
    TakesContent State.reset (6 + 5 * ([] : List (Byte × Entry)).length) ∧
      (List.replicate 256 ((7 : Byte), Entry.reset)).length ≤ 256 ∧ TakesContent State.reset (6 + 5 * 256) := by
  refine ⟨⟨⟨rfl, ?_, ?_, ?_⟩, rfl, rfl⟩, ?_, ⟨⟨rfl, ?_, ?_, ?_⟩, rfl, rfl⟩⟩
  · decide
  · decide
  · decide
  · rw [List.length_replicate]
  · decide
  · decide
  · decide

/-- A time that has come, one that has not, and no time; an index that the set holds and one that it does not. -/
theorem witness_PatchAppliesAtFrameStart :
    ∀ x ∈ [(ApplyTime.nextFrame, true), (.atTime 1, true), (.atTime 2, false)],
      ∀ skew ∈ [StartSkew.level, .paletteAhead 1 true],
      (let s := (State.reset.setPatch (.scheduled 2 [(7, Entry.reset)] x.1)).setSkew skew
       s.resetLow = false ∧ s.palette.patch = .scheduled 2 [(7, Entry.reset)] x.1 ∧ s.skew = skew ∧
         x.1.come (s.engine.fc + 1) = x.2) := by
  decide

/-- T equal to FC, 2^31 − 1 frames behind it and 2^31 ahead of it, for an entry of the schedule and for a start time. -/
theorem witness_DueRule :
    (2 ^ 31 - 1 < 2 ^ 31 ∧ 1 ≤ 2 ^ 31) ∧
      (let t : FrameCount := 5
       let e : ShowEntry := { ctx := .menu, page := none, time := some t, trans := .cut, origin := .segment,
                              restore := none, late := false }
       let s := withSeq fun q => { q with run := .armed, config := { q.config with startKind := .time, startTime := t } }
       e.time = some t ∧ s.engine.fc = 0 ∧ s.seq.config.startTime = t ∧ s.seq.run = .armed ∧
         s.seq.config.startKind = .time) := by decide

theorem witness_FadeBoundaryAndBlend : (1 ≤ 255 ∧ 1 ≤ 255 ∧ 255 ≤ 255) ∧ (0 ≤ 255 ∧ 255 ≤ 255) := by decide

/-- A body of each definition segment for page 5. -/
theorem witness_DefinitionSegmentTaken :
    TakesContent pageState 8 ∧ TakesContent pageState (3 + 31) ∧
      PageFits [5, 1, 0xFF, 0, 1, 1, 0xFF, 0x80, 0, 0x7F, 0xFF, 7, 255, 4, 2, 0, 0, 0, 0, 0, 0, 0, 0] ∧
      ButtonsFits pageState (5 :: 0 :: 1 :: buttonRecord 0 0) ∧ AnimationsFits pageState [5, 1, 1, 1, 1, 0, 7, 4] := by
  refine ⟨⟨⟨rfl, ?_, ?_, ?_⟩, rfl, rfl⟩, ⟨⟨rfl, ?_, ?_, ?_⟩, rfl, rfl⟩, ?_, ⟨?_, ?_, ?_, ?_, ?_, ?_, ?_⟩, ?_⟩ <;> decide

/-- 11.5 and R73, by hand: x of 0x8000 and y of 0x7FFF saturate, flags 0x02 say a window and not visible. -/
theorem test_placement :
    (pageOf [5, 1, 0xFF, 0, 1, 1, 0xFF, 0x80, 0, 0x7F, 0xFF, 7, 255, 4, 2, 0, 1, 0, 2, 0, 3, 1, 0]).placements =
      [{ obj := 511, x := -4096, y := 4095, palette := 7, opacity := 255, reduction := .four, visible := false,
         window := some { wx := 1, wy := 2, ww := 3, wh := 256 } }] := by decide

theorem witness_ScrollTaken :
    TakesContent pageState 6 ∧ (pageState.engine.page 5).defined = true ∧
      (pageState.engine.page 5).cur.placements[0]? = some plainPlacement := by
  refine ⟨⟨⟨rfl, ?_, ?_, ?_⟩, rfl, rfl⟩, ?_, ?_⟩ <;> decide

/-- A Show of page 5 on MENU with a time. -/
theorem witness_ShowTaken :
    ShowFits [1, 5, 1, 0, 0, 0, 9, 1, 0] ∧ ShowFits [2, 0xFF, 0, 0, 0, 0, 0, 2, 255] := by decide

/-- An entry for MENU that is due at the next frame start after reset. -/
def menuEntry (page : Option PageId) (time : Option FrameCount) (trans : Transition) : ShowEntry :=
  { ctx := .menu, page := page, time := time, trans := trans, origin := .segment, restore := none, late := false }

/-- A state with a given schedule. -/
def withSchedule (l : List ShowEntry) (s : State) : State := s.setEngine { s.engine with schedule := l }

/-- Pages are exclusive where SLIDE holds none and POPUP none of MENU's. -/
theorem exclusive_of {cs : Contexts} (hs : cs.slide = .empty) (hm : ∀ p ∈ cs.menu.pages, p ∉ cs.popup.pages) :
    cs.Exclusive := by
  intro c d p hc hd
  cases c <;> cases d <;> simp_all [Contexts.get, CtxState.pages]

/-- A defined page, an undefined page and a hide; each transition, with a time and with none; MENU EMPTY, and before and at
the last step of a transition; POPUP EMPTY and holding page 5. -/
theorem witness_DueEntriesAreApplied :
    ∀ page ∈ [some (5 : PageId), some 6, none], ∀ trans ∈ [Transition.cut, .crossfade 3, .wipe 255],
      ∀ time ∈ [none, some (1 : FrameCount)],
      ∀ menu ∈ [CtxState.empty, .transition (some 7) (some 8) .wipe 4 3, .transition none (some 7) .crossfade 4 4],
      ∀ popup ∈ [CtxState.empty, .showing 5],
      let e := menuEntry page time trans
      let s := withSchedule [e] (pageState.setEngine { pageState.engine with
        contexts := { slide := .empty, menu := menu, popup := popup } })
      s.resetLow = false ∧ s.engine.contexts.Exclusive ∧ s.engine.schedule = [e] ∧ e.origin ≠ .sequencer ∧
        (∀ x, e.time = some x → isDue s.engineStartFc x = true) := by
  intro page _ trans _ time ht menu hm popup hp
  refine ⟨rfl, exclusive_of rfl ?_, rfl, by simp [menuEntry], fun x h => ?_⟩
  · have : ∀ m ∈ [CtxState.empty, .transition (some 7) (some 8) .wipe 4 3, .transition none (some 7) .crossfade 4 4],
        ∀ q ∈ [CtxState.empty, .showing 5], ∀ p ∈ m.pages, p ∉ q.pages := by decide
    exact this menu hm popup hp
  · have hx : time = some x := h
    subst hx
    simp only [List.mem_cons, Option.some.injEq, List.not_mem_nil, or_false, reduceCtorEq, false_or] at ht
    subst ht
    show isDue (0 + 1) 1 = true
    decide

/-- A page that is defined, one that is not, and one that another context holds; a placed slide that is shown in RUNNING
with no target, for each way its dwell begins: by CUT, by a crossfade to another page, and to the page SLIDE had. -/
theorem witness_DueEntriesAreApplied_clauses :
    ((pageState.engine.page 5).defined = true ∧ (pageState.engine.page 6).defined = false ∧
      (pageState.engine.page 6).waiting = none ∧ (5 : PageId) ∈ (CtxState.showing 5).pages) ∧
      ∀ x ∈ [(Transition.cut, none), (.crossfade 4, none), (.crossfade 4, some (5 : PageId))],
        let slide : SlideEntry := { plainSlide with page := 5, trans := x.1 }
        let e : ShowEntry := { menuEntry (some 5) none x.1 with ctx := .slide, origin := .sequencer }
        let s := (withSchedule [e] pageState).setSeq { Sequencer.reset with
          list := [slide], run := .running, placed := some { entry := 0, page := 5 }, slidePage := x.2 }
        s.resetLow = false ∧ s.engine.schedule = [e] ∧ s.seq.placed = some { entry := 0, page := 5 } ∧
          s.seq.run.isRunning = true ∧ s.seq.target = none ∧ s.seq.slidePage = x.2 ∧ s.seq.list[0]? = some slide := by decide

/-- Entries of SLIDE and MENU that are due, around one of POPUP. -/
theorem witness_DueEntriesAreApplied_several :
    (let e : ShowEntry := { menuEntry (some 5) none .cut with ctx := .popup }
     let l1 := [{ menuEntry (some 6) (some 0) .cut with ctx := .slide, origin := .sequencer }]
     let l2 := [menuEntry (some 7) (some 1) (.wipe 4), menuEntry none none .cut]
     let s := withSchedule (l1 ++ e :: l2) pageState
     s.resetLow = false ∧ s.engine.schedule = l1 ++ e :: l2 ∧
       (∀ x ∈ l1 ++ e :: l2, (x.time.all (isDue s.engineStartFc)) = true) ∧ e.ctx = .popup ∧
       ∀ x ∈ l1 ++ l2, x.ctx = .slide ∨ x.ctx = .menu) := by decide

/-- A pending definition with its final mark set and with it clear, and no staged scroll; no entry that is due for MENU, in
a transition; a staged scroll for an index with a placement and for one without. -/
theorem witness_EngineFrameStartResult :
    (∀ final ∈ [true, false],
      (let s := withEngine fun e =>
         { e.setPage 5 { definedPage .blank with waiting := some { body := .blank, final := final } } with
           contexts := e.contexts.set (.transition (some 4) none .wipe 9 3) .menu }
       s.resetLow = false ∧ (s.engine.page 5).waiting = some { body := .blank, final := final } ∧
         (∀ g ∈ s.engine.staged, g.page ≠ 5) ∧ s.engine.schedule = [] ∧
         s.engine.contexts.get .menu = .transition (some 4) none .wipe 9 3)) ∧
      ∀ i ∈ [0, 1],
        let g : Scroll := { page := 5, index := i, wx := 3, wy := 4 }
        let s := pageState.setEngine { pageState.engine with staged := [g] }
        (s.engine.staged.filter fun g => g.page == 5 && g.index == i).getLast? = some g ∧
          (s.engine.page 5).cur.placements[i]? = if i = 0 then some plainPlacement else none := by decide

/-- A navigation page of MENU in use, with a pending definition whose final mark is set and with one whose is not. -/
theorem witness_EngineFrameStartResult_redefined :
    ∀ final ∈ [true, false],
      let e := Engine.reset.setPage 5 { definedPage .blank with waiting := some { body := .blank, final := final } }
      let s : State := { State.reset with
        engine := e.setCtx .menu (.showing 5)
        nav := Nav.reset.set { NavState.reset with page := some 5, selected := some 0 } .menu }
      s.resetLow = false ∧ s.engine.schedule = [] ∧ (s.nav.get .menu).page = some 5 ∧
        s.engine.contexts.get .menu = .showing 5 ∧
        (s.engine.page 5).waiting = some { body := .blank, final := final } := by decide

/-- At the last step and before it, with an incoming page and with none. -/
theorem witness_TransitionEnds :
    ∀ x ∈ [(Ctx.menu, CtxState.transition (some 4) (some 2) .crossfade 4 4), (.popup, .transition none (some 2) .wipe 4 1)],
      (withEngine fun e => e.setCtx x.1 x.2).resetLow = false ∧
        (withEngine fun e => e.setCtx x.1 x.2).engine.contexts.get x.1 = x.2 := by decide

/-- The mixer of a 320 × 240 raster in an open frame of so many lines. -/
def openMixer (m : OutMode) (lines : Nat) : Mixer :=
  { Mixer.reset [] with
    out := { mode := m, fill := { y := 16, cb := 128, cr := 128 } }, raster := .valid, width := 320, height := 240
    frame := some { lines := lines, width := none } }

/-- A frame open at its last line and at line H, each output mode; drop count within its stop. -/
theorem witness_MixerFrames_LineResult :
    ∀ m ∈ [OutMode.pass, .composed, .fill], ∀ n ∈ [239, 240],
      (let s := State.reset.setMixer (openMixer m n)
       s.resetLow = false ∧ s.mixer.frame = some { lines := n, width := none } ∧ s.mixer.raster = .valid ∧
         (n = 239 → n < s.mixer.height) ∧ (n = 240 → s.mixer.height ≤ n) ∧ s.mixer.dropSpans ≤ 65535) := by decide

theorem witness_LegalVideoStaysLegal :
    (∀ p ∈ [({ y := 16, cb := 128, cr := 240 } : Pixel)], LegalPixel p) ∧
      ∃ t, exec (.line [{ y := 16, cb := 128, cr := 240 }]) queued = .next t := by
  refine ⟨?_, _, rfl⟩
  simp only [List.mem_singleton, forall_eq]
  unfold LegalPixel LegalColour; decide

/-- The sequencer in a run state over a list of three slides of page 0. -/
def slideState (f : Sequencer → Sequencer) : State :=
  (withSeq fun q => f { q with list := [plainSlide, plainSlide, plainSlide], shown := some 1 }).setEngine
    (Engine.reset.setPage 0 (definedPage .blank))

/-- FLAGS sources whose conditions turn true as bit 0 is set: a start in ARMED with an eligible entry and with none, a stop
in HELD; and no source. -/
theorem witness_KeyAndFlagsTaken :
    (let m : MaskCompare := { mask := 1, compare := 1 }
     m.holds 0 = false ∧ m.holds 1 = true ∧ (0 &&& ~~~0 ||| (1 : Half)) ≠ 0 ∧
       (let s := slideState fun q => { q with run := .armed, config := { q.config with startKind := .flags, startCond := m } }
        s.seq.run = .armed ∧ s.seq.config.startKind = .flags ∧ s.seq.config.startCond = m ∧ s.seq.flagsCopy = 0 ∧
          s.seq.list[0]? = some plainSlide ∧ plainSlide.cond.holds 1 = true ∧
          (s.engine.page plainSlide.page).defined = true) ∧
       (let e : SlideEntry := { plainSlide with cond := { mask := 0, compare := 1 } }
        ∀ x ∈ [e], x.cond.holds 1 = false) ∧
       (let s := slideState fun q => { q with run := .held, config := { q.config with stopKind := .flags, stopCond := m } }
        s.seq.run = .held ∧ s.seq.config.stopKind = .flags ∧ s.seq.config.stopCond = m ∧ s.seq.flagsCopy = 0)) ∧
      State.reset.seq.config.startKind ≠ .flags ∧ State.reset.seq.config.stopKind ≠ .flags := by decide

/-- A context on page 5, with a selection and an arrow key in the key queue. -/
def arrowState (c : NavCtx) (d : PageDef) (key : Key) (selected : Option Nat) : State :=
  { State.reset with
    engine := Engine.reset.setPage 5 (definedPage d)
    nav := { Nav.reset with keys := [{ key := key, number := 0, rep := false }] }.set
      { NavState.reset with
        page := some 5, buttons := [{ state := .selected, head := none }, { state := .normal, head := none }],
        selected := selected } c }

/-- Two buttons, the second an auto-activate button, `next` beside the first in every direction. -/
def twoButtons (next : Option Nat) : PageDef :=
  { PageDef.blank with
    buttons := [{ plainButton 0 .none with up := next, down := next, left := next, right := next },
      { plainButton 1 .none with auto := true }] }

/-- Each arrow key, OK, NUMBER and BACK in each context, with a button selected and with none; a search that ends on
button 1, and one that ends nowhere. -/
theorem witness_KeyIsHandled :
    (∀ c ∈ [NavCtx.menu, .popup], ∀ key ∈ [Key.up, .down, .left, .right, .ok, .number, .back], ∀ next ∈ [none, some 1],
      ∀ selected ∈ [none, some 0],
        let d := twoButtons next
        let s := arrowState c d key selected
        s.resetLow = false ∧ s.nav.flagsChanged = false ∧ s.nav.redefined = false ∧ (s.nav.get c).page = some 5 ∧
          (c = .menu → s.nav.popup.page = none ∧ d.buttons ≠ []) ∧ (s.nav.get c).activation = none ∧
          (s.engine.page 5).cur = d ∧ (s.nav.get c).buttons.length = d.buttons.length ∧
          s.nav.keys = [{ key := key, number := 0, rep := false }]) ∧
      ∀ dir ∈ [Direction.up, .down, .left, .right],
        let n := fun d => (arrowState .menu d .up (some 0)).nav.menu
        arrowByRule (twoButtons none) (n (twoButtons none)) dir = none ∧
          arrowByRule (twoButtons (some 1)) (n (twoButtons (some 1))) dir = some 1 := by decide

/-- Every key in each focus: POPUP and MENU with an activation that goes on, and SLIDE; the POPUP key with a POPUP shown, with
a popup page to open and with none. -/
theorem witness_KeyIsHandled_other_focus :
    ∀ key ∈ [Key.up, .down, .left, .right, .ok, .back, .number, .popup], ∀ focus ∈ [some NavCtx.menu, some .popup, none],
      ∀ popupPage ∈ [none, some (6 : PageId)],
      let d := twoButtons none
      let s0 := arrowState (focus.getD .menu) d key (some 0)
      let busy := { s0.nav.get (focus.getD .menu) with activation := some { button := 0, left := 2 } }
      let s : State := { s0 with
        engine := { s0.engine with popupPage := popupPage }
        nav := match focus with
          | some c => s0.nav.set busy c
          | none => { Nav.reset with keys := s0.nav.keys } }
      s.resetLow = false ∧ s.nav.flagsChanged = false ∧ s.nav.redefined = false ∧
        s.nav.keys = [{ key := key, number := 0, rep := false }] ∧
        (∀ c ∈ [NavCtx.menu, .popup], (s.nav.get c).activation = if focus = some c then some { button := 0, left := 2 } else none) ∧
        (s.nav.popup.page ≠ none ↔ focus = some .popup) ∧ (s.nav.menu.page = some 5 ↔ focus = some .menu) ∧
        (s.engine.page 5).cur.buttons ≠ [] ∧ s.engine.popupPage = popupPage := by decide

/-- A context on page 5 with no key waiting, the flags word 0, and a selected SHOW-IF button whose condition holds or
not. -/
def markedState (c : NavCtx) (mark : Bool) (holds : Bool) (act : Option Activation) : State :=
  { State.reset with
    engine := Engine.reset.setPage 5 (definedPage { PageDef.blank with
      buttons := [{ plainButton 0 .none with mode := .showIf, cond := { mask := 1, compare := if holds then 0 else 1 } }] })
    nav := { Nav.reset with flagsChanged := mark }.set
      { NavState.reset with
        page := some 5, buttons := [{ state := .selected, head := none }], selected := some 0, activation := act } c }

/-- Marked and not, with the selected button's condition turned false and still true, and with an activation that goes on,
one that is cancelled, and none. -/
theorem witness_NavFrameEndResult :
    ∀ c ∈ [NavCtx.menu, .popup], ∀ x ∈ [(true, false), (true, true), (false, true)],
      ∀ act ∈ [none, some ({ button := 0, left := 2 } : Activation)],
      let s := markedState c x.1 x.2 act
      s.resetLow = false ∧ s.nav.keys = [] ∧ (s.nav.get c).page = some 5 ∧ s.nav.flagsChanged = x.1 ∧
        (s.nav.get c).buttons.length = (s.engine.page 5).cur.buttons.length ∧ (s.nav.get c).activation = act ∧
        (∀ e ∈ [NavCtx.menu, .popup], (s.nav.get e).buttons.length = (shownDef s e).buttons.length) ∧
        (∀ a ∈ act.toList, 1 < a.left) ∧
        (s.engine.page 5).cur.buttons.map (fun b => b.condHolds s.nav.flags) = [x.2] := by decide

/-- MENU on page 5 with button 0 ACTIVATING, and a page stack. -/
def activatingState (a : Action) (left : Nat) (stack : List (PageId × Option Nat)) : State :=
  { State.reset with
    engine := Engine.reset.setPage 5 (definedPage { PageDef.blank with buttons := [plainButton 0 a] })
    nav := { Nav.reset with menu := { NavState.reset with
      page := some 5, buttons := [{ state := .activating, head := none }], selected := some 0,
      activation := some { button := 0, left := left }, stack := stack } } }

/-- Each action, at the hold's end and before it, on an empty page stack and on one with an entry, with room in the schedule
and with none. At the hold's end a navigation frame end meets the same states, with a key that waits and with none. -/
theorem witness_ActivationExecutes :
    ∀ a ∈ [Action.none, .goto 6 .cut, .replace 6 (.wipe 9), .back .cut, .close .cut, .slidesStart 0, .slidesStop,
        .setFlags 1 2], ∀ left ∈ [0, 1, 2], ∀ stack ∈ [[], [((4 : PageId), some 1)]], ∀ entries ∈ [7, 8],
      ∀ keys ∈ [[], [({ key := .ok, number := 0, rep := false } : KeyEntry)]],
      let s0 := withSchedule (List.replicate entries (menuEntry none none .cut)) (activatingState a left stack)
      let s := s0.setNav { s0.nav with keys := keys, flagsChanged := entries == 7 }
      s.resetLow = false ∧ (s.nav.get .menu).activation = some { button := 0, left := left } ∧
        (shownDef s .menu).buttons[0]? = some (plainButton 0 a) ∧ s.engine.schedule.length = entries ∧
        (s.nav.get .menu).stack = stack ∧ s.nav.keys = keys ∧ s.nav.popup.activation = none ∧
        ∀ c ∈ [NavCtx.menu, .popup], (s.nav.get c).buttons.length = (shownDef s c).buttons.length := by decide

/-- An animation of two entries in both modes, the playhead at its first and its last entry. -/
theorem witness_PlayheadSteps :
    ∀ m ∈ [AnimMode.once, .loop], ∀ e ∈ [0, 1],
      let a : Animation := { mode := m, entries := [{ obj := none, hold := 2 }, { obj := some 7, hold := 1 }] }
      let b : Button := { plainButton 0 .none with selected := .animation 0 }
      let h : Playhead := { entry := e, left := 1, fresh := false }
      let s : State := { State.reset with
        engine := Engine.reset.setPage 5 (definedPage { PageDef.blank with buttons := [b], animations := [a] })
        nav := { Nav.reset with menu := { NavState.reset with
          page := some 5, buttons := [{ state := .selected, head := some h }], selected := some 0 } } }
      s.resetLow = false ∧ (s.nav.get .menu).page = some 5 ∧
        (s.nav.get .menu).buttons[0]? = some { state := .selected, head := some h } ∧ h.fresh = false ∧
        (s.engine.page 5).cur.buttons[0]? = some b ∧ b.visual .selected = .animation 0 ∧
        (s.engine.page 5).cur.animations[0]? = some a := by decide

/-- A Slide List body of one entry, and a configuration. -/
theorem witness_SlideListTaken_SlideControl :
    SlideListFits (1 :: List.replicate 16 0 ++ [1] ++ List.replicate 10 0) ∧ ConfigFits (List.replicate 16 0) 0 ∧
      ConfigFits [3, 0, 0, 0, 0, 0, 0, 0, 0, 2, 0, 0, 0, 0, 63, 2] 0 := by decide

/-- An eligible entry to start at, and a list in which no condition holds. -/
theorem witness_StartTriggerActs :
    (let s := slideState fun q => { q with run := .armed }
     s.seq.run = .armed ∧ s.seq.list[0]? = some plainSlide ∧ plainSlide.cond.holds s.seq.flagsCopy = true ∧
       (s.engine.page plainSlide.page).defined = true) ∧
      (let e : SlideEntry := { plainSlide with cond := { mask := 0, compare := 1 } }
       let s := slideState fun q => { q with run := .ended, config := { q.config with endMode := .loop }, list := [e] }
       (s.seq.run = .ended ∧ s.seq.config.endMode ≠ .once) ∧ ∀ x ∈ s.seq.list, x.cond.holds s.seq.flagsCopy = false) := by
  decide

/-- The reference entry 1 of three, in RUNNING and in DRAINING with and without drain left. -/
theorem witness_NextAndPrev :
    ∀ x ∈ [(RunState.running, 0), (.held, 0), (.draining, 2), (.draining, 0)],
      (let s := slideState fun q => { q with run := x.1, drain := x.2 }
       s.seq.reference = some 1 ∧ s.seq.list[1 + 1]? = some plainSlide ∧ s.seq.list[1 - 1]? = some plainSlide ∧
         plainSlide.cond.holds s.seq.flagsCopy = true ∧ (s.engine.page plainSlide.page).defined = true) := by decide

/-- Whether the page of a READYING target is ready, where its placement names an EMPTY slot and where it has none. -/
def targetPage (placed : Bool) (f : Sequencer → Sequencer) : State :=
  (slideState f).setEngine (Engine.reset.setPage 0
    (definedPage { PageDef.blank with placements := if placed then [plainPlacement] else [] }))

theorem targetPage_store (placed : Bool) (f : Sequencer → Sequencer) (k : ObjId) :
    (targetPage placed f).store.slot k = .empty := queued_slot k

theorem targetPage_placements (placed : Bool) (f : Sequencer → Sequencer) :
    ((targetPage placed f).engine.page 0).cur.placements = if placed then [plainPlacement] else [] := rfl

/-- A target, READYING one frame short of LATE-SLIDE, at LATE-SLIDE, and READY, on a page that is ready and on one that is not
(`witness_target_ready`). A COUNTING dwell, of 2 and at its last frame end, in RUNNING, in HELD, and in DRAINING with drain
left and with none, before an eligible entry and at the end of the list. A TIME start source in ARMED that is due. -/
theorem witness_SequencerFrameEndActs :
    (let s := slideState fun q => { q with run := .armed, config := { q.config with startKind := .time } }
     s.resetLow = false ∧ s.seq.target = none ∧ s.seq.dwell = .absent ∧ s.seq.run = .armed ∧
       s.seq.config.startKind = .time ∧ (s.engine.fc - s.seq.config.startTime).toNat < 2 ^ 31) ∧
    ∀ placed ∈ [false, true],
      (∀ x ∈ [(false, 298), (false, 299), (true, 0)],
        let s := targetPage placed fun q => { q with
          run := .running, target := some { entry := 2, ready := x.1, wait := x.2 } }
        s.resetLow = false ∧ s.seq.run.isRunning = true ∧ s.seq.dwell = .absent ∧
          s.seq.target = some { entry := 2, ready := x.1, wait := x.2 } ∧ s.seq.list[2]? = some plainSlide) ∧
        ∀ x ∈ [(RunState.running, 0), (.held, 0), (.draining, 0), (.draining, 1)], ∀ n ∈ [1, 2], ∀ r ∈ [1, 2],
          let s := targetPage placed fun q => { q with run := x.1, drain := x.2, dwell := .counting n, shown := some r }
          s.resetLow = false ∧ s.seq.target = none ∧ s.seq.dwell = .counting n ∧ s.seq.run = x.1 ∧ s.seq.drain = x.2 ∧
            s.seq.placed = none ∧ s.seq.shown = some r ∧ s.seq.config.endMode ≠ .loop ∧
            (r = 1 → s.seq.list[r + 1]? = some plainSlide) ∧ (r = 2 → s.seq.list.length ≤ r + 1) ∧
            plainSlide.cond.holds s.seq.flagsCopy = true ∧ (s.engine.page plainSlide.page).defined = true := by decide

/-- The page of that target is ready without a placement, and not ready with one on an EMPTY slot. -/
theorem witness_target_ready (f : Sequencer → Sequencer) :
    pageReady (targetPage false f) plainSlide.page = true ∧ pageReady (targetPage true f) plainSlide.page = false := by
  simp [pageReady, plainSlide, targetPage_placements, targetPage_store, Slot.countsReady]

/-- A READYING target one wait short of its last and at it, on a page that is ready and on one that is not
(`witness_target_ready`), a dwell that runs out, and a TIME source that is due. -/
theorem witness_SequencerPartSteps :
    (∀ placed ∈ [false, true], ∀ wait ∈ [298, 299],
     let s := targetPage placed fun q => { q with
       run := .running, target := some { entry := 2, ready := false, wait := wait } }
     s.resetLow = false ∧ s.seq.target = some { entry := 2, ready := false, wait := wait } ∧
       s.seq.list[2]? = some plainSlide) ∧
      (let s := slideState fun q => { q with run := .running, dwell := .counting 1 }
       s.resetLow = false ∧ s.seq.run = .running ∧ s.seq.dwell = .counting 1 ∧ s.seq.target = none ∧
         s.seq.placed = none ∧ s.seq.shown = some 1 ∧ s.seq.list[1 + 1]? = some plainSlide ∧
         plainSlide.cond.holds s.seq.flagsCopy = true ∧ (s.engine.page plainSlide.page).defined = true) ∧
      (let s := slideState fun q => { q with run := .armed, config := { q.config with startKind := .time } }
       s.resetLow = false ∧ s.seq.run = .armed ∧ s.seq.config.startKind = .time ∧
         (s.engine.fc - s.seq.config.startTime).toNat < 2 ^ 31 ∧ s.seq.list[0]? = some plainSlide) := by decide

/-- The first byte of RESTART-DONE, and an empty queue. -/
theorem witness_ReportPort :
    (let r : Report := { lost := false, fc := 0, body := .restartDone .pin 0x37 }
     State.reset.resetLow = false ∧ State.reset.report.queue = [r] ∧ r.bytes[State.reset.report.readPos]? = some 8) ∧
      (State.reset.setReport (ReportUnit.low 0)).report.queue = [] := by decide

end Sys2Proof.Tests
end

section
/-! PROOFS. What the blocks behind the decoder leave alone: the palette unit, the composition engine, the mixer, the
navigation unit, the sequencer and the report unit touch neither the segment port, the decoder, the object store and
object memory, nor the reset pin and the queue of commands. -/

namespace Sys2Proof.Machine

open Sys2Proof

/-- The part of the state that stands before the display blocks. -/
structure Front where
  pending : List Instr
  resetLow : Bool
  port : Port
  decoder : Decoder
  store : Store
  mem : Memory

/-- The front of a state. -/
def State.front (s : State) : Front :=
  { pending := s.pending, resetLow := s.resetLow, port := s.port, decoder := s.decoder, store := s.store, mem := s.mem }

section Projections

variable {s t : State} (h : t.front = s.front)
include h

theorem pending_of_front : t.pending = s.pending := congrArg Front.pending h
theorem resetLow_of_front : t.resetLow = s.resetLow := congrArg Front.resetLow h
theorem port_of_front : t.port = s.port := congrArg Front.port h
theorem decoder_of_front : t.decoder = s.decoder := congrArg Front.decoder h
theorem store_of_front : t.store = s.store := congrArg Front.store h
theorem mem_of_front : t.mem = s.mem := congrArg Front.mem h

end Projections

/-! ### The setters of the display blocks -/

section Setters

variable (s : State)

@[simp] theorem setPalette_front (x : PaletteUnit) : (s.setPalette x).front = s.front := rfl
@[simp] theorem setEngine_front (x : Engine) : (s.setEngine x).front = s.front := rfl
@[simp] theorem setMixer_front (x : Mixer) : (s.setMixer x).front = s.front := rfl
@[simp] theorem setNav_front (x : Nav) : (s.setNav x).front = s.front := rfl
@[simp] theorem setSeq_front (x : Sequencer) : (s.setSeq x).front = s.front := rfl
@[simp] theorem setReport_front (x : ReportUnit) : (s.setReport x).front = s.front := rfl
@[simp] theorem setSkew_front (x : StartSkew) : (s.setSkew x).front = s.front := rfl
@[simp] theorem raise_front (b : ReportBody) : (s.raise b).front = s.front := rfl
@[simp] theorem raiseAt_front (fc : FrameCount) (b : ReportBody) : (s.raiseAt fc b).front = s.front := rfl
@[simp] theorem setNavState_front (c : NavCtx) (x : NavState) : (s.setNavState c x).front = s.front := rfl
@[simp] theorem setStack_front (c : NavCtx) (x : List (PageId × Option Nat)) : (s.setStack c x).front = s.front := rfl
@[simp] theorem setCtx_front (c : Ctx) (x : CtxState) : (s.setCtx c x).front = s.front := rfl
@[simp] theorem setRun_front (x : RunState) : (s.setRun x).front = s.front := rfl
@[simp] theorem setPatch_front (x : Patch) : (s.setPatch x).front = s.front := rfl
@[simp] theorem hear_front (u : Sequencer × ReportUnit) : (s.hear u).front = s.front := rfl
@[simp] theorem malformed_front (k : Kind) (b : List Byte) : (malformed k b s).front = s.front := rfl

end Setters

/-- A fold of steps that leave the front alone leaves it alone. -/
theorem foldl_front {α : Type} {f : State → α → State} (hf : ∀ s x, (f s x).front = s.front) (l : List α) (s : State) :
    (l.foldl f s).front = s.front := by
  induction l generalizing s with
  | nil => rfl
  | cons x l ih => rw [List.foldl_cons, ih, hf]

/-! ### The sequencer (chapter 8) -/

@[simp] theorem insertEntry_front (x : ShowEntry) (s : State) : (insertEntry x s).2.front = s.front := by
  unfold insertEntry; split <;> rfl

@[simp] theorem endRun_front (why : EndReason) (final : RunState) (s : State) : (endRun why final s).front = s.front := rfl

@[simp] theorem scanEntries_front (l : List Nat) (s : State) : (scanEntries l s).2.front = s.front := by
  induction l generalizing s with
  | nil => rfl
  | cons i l ih =>
    unfold scanEntries
    split
    · exact ih s
    · split_ifs
      · exact ih s
      · rfl
      · simp [ih]

@[simp] theorem advanceFrom_front (ref : Option Nat) (s : State) : (advanceFrom ref s).front = s.front := by
  rw [advanceFrom_eq_rule]; rfl

@[simp] theorem advance_front (s : State) : (advance s).front = s.front := advanceFrom_front _ s

@[simp] theorem backStep_front (s : State) : (backStep s).front = s.front := by
  unfold backStep
  split
  · rfl
  · next r _ =>
    have h := scanEntries_front (backwardOrder s.seq.list.length s.seq.loops r) s
    split <;> simp_all

@[simp] theorem startTrigger_front (b : StartedBy) (e : Nat) (s : State) : (startTrigger b e s).front = s.front := by
  rw [startTrigger_eq_rule]; rfl

@[simp] theorem stopTrigger_front (s : State) : (stopTrigger s).front = s.front := by rw [stopTrigger_eq_rule]; rfl

@[simp] theorem flagsNotice_front (new : Half) (s : State) : (flagsNotice new s).front = s.front := by
  unfold flagsNotice; dsimp only; split_ifs <;> simp

@[simp] theorem slideKey_front (k : SlideKey) (s : State) : (slideKey k s).front = s.front := by
  cases hr : s.seq.run <;> cases k <;> simp [slideKey, hr]

@[simp] theorem countDwell_front (s : State) : (countDwell s).front = s.front := by
  unfold countDwell expireDwell
  split
  · split
    · split_ifs <;> simp
    all_goals rfl
  · rfl

@[simp] theorem lateTarget_front (t : Target) (s : State) : (lateTarget t s).front = s.front := by
  unfold lateTarget; split <;> rfl

@[simp] theorem testTarget_front (s : State) : (testTarget s).front = s.front := by
  unfold testTarget markReady
  split
  · rfl
  · split_ifs <;> simp

@[simp] theorem testTime_front (s : State) : (testTime s).front = s.front := by unfold testTime; split <;> simp

@[simp] theorem insertTarget_front (s : State) : (insertTarget s).front = s.front := by
  unfold insertTarget
  split
  · rfl
  · split
    · split
      · rfl
      · next e _ =>
        have h := insertEntry_front (slideShow e) s
        split <;> simp_all
    · rfl

@[simp] theorem sequencerEnd_front (s : State) : (sequencerEnd s).front = s.front := by simp [sequencerEnd]

@[simp] theorem slideShown_front (p : PageId) (s : State) : (slideShown p s).front = s.front := by
  unfold slideShown
  split
  · rfl
  · dsimp only; split <;> rfl

@[simp] theorem slideComplete_front (s : State) : (slideComplete s).front = s.front := by
  unfold slideComplete; split <;> rfl

@[simp] theorem slideNotApplied_front (s : State) : (slideNotApplied s).front = s.front := by
  unfold slideNotApplied
  split
  · rfl
  · dsimp only; split_ifs <;> simp

@[simp] theorem takeSlideList_front (b : List Byte) (s : State) : (takeSlideList b s).front = s.front := by
  unfold takeSlideList loadList
  split
  · rfl
  · split_ifs <;> rfl

@[simp] theorem slideConfigure_front (c : SlideConfig) (s : State) : (slideConfigure c s).front = s.front := by
  unfold slideConfigure; split <;> rfl

@[simp] theorem slideArm_front (s : State) : (slideArm s).front = s.front := by unfold slideArm; split <;> rfl

@[simp] theorem slideDisarm_front (s : State) : (slideDisarm s).front = s.front := by unfold slideDisarm; split <;> rfl

@[simp] theorem takeSlideControl_front (b : List Byte) (s : State) : (takeSlideControl b s).front = s.front := by
  unfold takeSlideControl; split <;> simp

/-! ### The navigation unit (chapter 7) -/

@[simp] theorem writeFlags_front (new : Half) (s : State) : (writeFlags new s).front = s.front := by
  unfold writeFlags; split <;> simp

@[simp] theorem takeFlags_front (b : List Byte) (s : State) : (takeFlags b s).front = s.front := by
  unfold takeFlags; split <;> simp

@[simp] theorem takeKey_front (b : List Byte) (s : State) : (takeKey b s).front = s.front := by
  unfold takeKey queueKey
  split
  · rfl
  · split_ifs <;> rfl

@[simp] theorem navRedefined_front (p : PageId) (s : State) : (navRedefined p s).front = s.front := by
  have h : ∀ c s, (navRedefinedIn c p s).front = s.front := fun c s => by
    unfold navRedefinedIn; dsimp only; split <;> rfl
  rw [navRedefined, h, h]

@[simp] theorem insertWith_front (c : NavCtx) (e : ShowEntry) (l : List (PageId × Option Nat)) (s : State) :
    (insertWith c e l s).front = s.front := by
  have h := insertEntry_front e s
  unfold insertWith
  split <;> simp_all

@[simp] theorem goBack_front (c : NavCtx) (t : Transition) (s : State) : (goBack c t s).front = s.front := by
  unfold goBack
  dsimp only
  split
  · simp
  · cases c <;> simp

@[simp] theorem setFlagsAction_front (set clear : Half) (s : State) : (setFlagsAction set clear s).front = s.front := by
  unfold setFlagsAction; dsimp only; split <;> simp

@[simp] theorem performAction_front (c : NavCtx) (a : Action) (s : State) : (performAction c a s).front = s.front := by
  cases a with
  | goto q t => simp [performAction, goTo]
  | close t => simp [performAction, closeContext]
  | slidesStart e => simp only [performAction, buttonStart]; split <;> simp
  | slidesStop => simp only [performAction, buttonStop]; split <;> simp
  | _ => simp [performAction]

@[simp] theorem executeAction_front (c : NavCtx) (i : Nat) (s : State) : (executeAction c i s).front = s.front := by
  unfold executeAction
  split
  · rfl
  · dsimp only; split <;> simp

@[simp] theorem finishActivation_front (c : NavCtx) (i : Nat) (s : State) : (finishActivation c i s).front = s.front := by
  simp [finishActivation]

@[simp] theorem activate_front (c : NavCtx) (i : Nat) (s : State) : (activate c i s).front = s.front := by
  unfold activate; dsimp only; split <;> simp

@[simp] theorem countActivation_front (c : NavCtx) (s : State) : (countActivation c s).front = s.front := by
  unfold countActivation
  dsimp only
  split
  · rfl
  · split <;> simp

@[simp] theorem evaluateConditions_front (s : State) : (evaluateConditions s).front = s.front := by
  unfold evaluateConditions evaluateIn; dsimp only; split <;> simp

@[simp] theorem popupKey_front (s : State) : (popupKey s).front = s.front := by
  unfold popupKey
  split
  · simp
  · split <;> simp

@[simp] theorem selectIn_front (c : NavCtx) (j : Nat) (s : State) : (selectIn c j s).front = s.front := rfl

@[simp] theorem arrowKey_front (c : NavCtx) (d : Direction) (s : State) : (arrowKey c d s).front = s.front := by
  unfold arrowKey
  dsimp only
  split
  · rfl
  · split <;> simp

@[simp] theorem okKey_front (c : NavCtx) (s : State) : (okKey c s).front = s.front := by
  unfold okKey; split <;> simp

@[simp] theorem numberKey_front (c : NavCtx) (k : Nat) (s : State) : (numberKey c k s).front = s.front := by
  unfold numberKey; dsimp only; split <;> simp

@[simp] theorem contextKey_front (c : NavCtx) (e : KeyEntry) (s : State) : (contextKey c e s).front = s.front := by
  unfold contextKey
  split
  · rfl
  · split <;> simp

@[simp] theorem handleKey_front (e : KeyEntry) (s : State) : (handleKey e s).front = s.front := by
  unfold handleKey slideFocusKey
  split
  · simp
  · split
    · simp
    · split <;> simp

@[simp] theorem takeOneKey_front (s : State) : (takeOneKey s).front = s.front := by unfold takeOneKey; split <;> simp

@[simp] theorem navEnd_front (s : State) : (navEnd s).front = s.front := by
  simp [navEnd, stepHeadsIn, clearFresh]

/-! ### The palette unit, the mixer and the report unit (chapters 4, 6, 9) -/

@[simp] theorem takePalette_front (b : List Byte) (s : State) : (takePalette b s).front = s.front := by
  unfold takePalette applyPalette
  split
  · rfl
  · split
    · rfl
    all_goals split <;> rfl

@[simp] theorem paletteStart_front (s : State) : (paletteStart s).front = s.front := by
  unfold paletteStart testPatch
  split
  · split <;> rfl
  all_goals rfl

@[simp] theorem takeOutput_front (b : List Byte) (s : State) : (takeOutput b s).front = s.front := by
  unfold takeOutput; split <;> rfl

@[simp] theorem mixLine_front (l : List Pixel) (s : State) : (mixLine l s).front = s.front := by
  unfold mixLine
  split
  · rfl
  · split <;> rfl

@[simp] theorem mixerEnd_front (s : State) : (mixerEnd s).front = s.front := by
  have ho : ∀ s, (reportOverload s).front = s.front := fun s => by unfold reportOverload; split <;> rfl
  have hr : ∀ old s, (reportRaster old s).front = s.front := fun old s => by
    unfold reportRaster
    split
    · rfl
    · split <;> rfl
  unfold mixerEnd
  split
  · rfl
  · simp [ho, hr]

@[simp] theorem takeStatus_front (b : List Byte) (s : State) : (takeStatus b s).front = s.front := by
  unfold takeStatus; split <;> rfl

@[simp] theorem takeMask_front (b : List Byte) (s : State) : (takeMask b s).front = s.front := by
  unfold takeMask; split <;> rfl

/-! ### The composition engine (chapter 5) -/

@[simp] theorem takeClock_front (b : List Byte) (s : State) : (takeClock b s).front = s.front := by
  unfold takeClock; split <;> rfl

@[simp] theorem takePage_front (b : List Byte) (s : State) : (takePage b s).front = s.front := by
  unfold takePage; split <;> rfl

@[simp] theorem takeButtons_front (b : List Byte) (s : State) : (takeButtons b s).front = s.front := by
  unfold takeButtons; split <;> rfl

@[simp] theorem takeAnimations_front (b : List Byte) (s : State) : (takeAnimations b s).front = s.front := by
  unfold takeAnimations; split <;> rfl

@[simp] theorem takeScroll_front (b : List Byte) (s : State) : (takeScroll b s).front = s.front := by
  unfold takeScroll
  split
  · rfl
  · split_ifs <;> rfl

@[simp] theorem takeShow_front (b : List Byte) (s : State) : (takeShow b s).front = s.front := by
  unfold takeShow
  split
  · rfl
  · split <;> simp

@[simp] theorem noticeShown_front (c : Ctx) (p : Option PageId) (r : Option Nat) (s : State) :
    (noticeShown c p r s).front = s.front := by
  cases c <;> cases p <;> simp [noticeShown, slideHidden, navShown, navHidden]

@[simp] theorem noticeNotApplied_front (e : ShowEntry) (s : State) : (noticeNotApplied e s).front = s.front := by
  unfold noticeNotApplied; split <;> simp

@[simp] theorem endTransition_front (c : Ctx) (s : State) : (endTransition c s).front = s.front := by
  unfold endTransition
  split
  · cases c <;> simp [noticeComplete]
  all_goals rfl

@[simp] theorem stepContext_front (c : Ctx) (s : State) : (stepContext c s).front = s.front := by
  unfold stepContext
  split
  · split <;> simp
  all_goals rfl

@[simp] theorem applyAllPending_front (s : State) : (applyAllPending s).front = s.front := by
  refine foldl_front (fun s p => ?_) _ s
  unfold applyPending
  split
  · rfl
  · dsimp only; split_ifs <;> simp

@[simp] theorem resolveSchedule_front (s : State) : (resolveSchedule s).front = s.front := by
  simp [resolveSchedule, foldl_front, supersede]

@[simp] theorem applyWinnerOf_front (w : Option (Nat × ShowEntry)) (s : State) : (applyWinnerOf w s).front = s.front := by
  have hr : ∀ e s, (reportShown e s).front = s.front := fun e s => by unfold reportShown; dsimp only; split <;> rfl
  unfold applyWinnerOf
  split
  · unfold applyWinner; split <;> simp [acceptWinner, hr]
  · rfl

@[simp] theorem engineStart_front (s : State) : (engineStart s).front = s.front := by
  simp [engineStart, recomputeLive, runSchedule, stepContexts, applyScrolls, moveClock]

end Sys2Proof.Machine
end

section
/-! PROOFS. The segment port: its totals by the receiver's state, what the owner of a segment leaves of it, and what the
router does with a content segment (1.1 to 1.4). -/

namespace Sys2Proof.Machine

open Sys2Proof

/-! ### Totals and HOLD (R9, R11) -/

/-- The places in the segment queue that a receiver takes (R9). -/
def Receiver.places : Receiver → Nat
  | .header _ | .body _ _ => 1
  | .hunt | .skip _ _ => 0

/-- The body bytes in the segment queue that a receiver takes (R9). -/
def Receiver.stored : Receiver → Nat
  | .body _ got => got.length
  | .hunt | .header _ | .skip _ _ => 0

/-- Body bytes of the complete segments that wait. -/
abbrev waitingBytes (q : List Segment) : Nat := (q.map fun g => g.body.length).sum

theorem Port.segTotal_eq (p : Port) : p.segTotal = p.queue.length + p.rx.places := by
  unfold Port.segTotal; cases p.rx <;> rfl

theorem Port.byteTotal_eq (p : Port) : p.byteTotal = waitingBytes p.queue + p.rx.stored := by
  unfold Port.byteTotal; cases p.rx <;> rfl

@[simp] theorem Receiver.places_hunt : Receiver.places .hunt = 0 := rfl
@[simp] theorem Receiver.places_header (l : List Byte) : Receiver.places (.header l) = 1 := rfl
@[simp] theorem Receiver.places_body (h : Header) (l : List Byte) : Receiver.places (.body h l) = 1 := rfl
@[simp] theorem Receiver.places_skip (h : Header) (n : Nat) : Receiver.places (.skip h n) = 0 := rfl
@[simp] theorem Receiver.stored_hunt : Receiver.stored .hunt = 0 := rfl
@[simp] theorem Receiver.stored_header (l : List Byte) : Receiver.stored (.header l) = 0 := rfl
@[simp] theorem Receiver.stored_body (h : Header) (l : List Byte) : Receiver.stored (.body h l) = l.length := rfl
@[simp] theorem Receiver.stored_skip (h : Header) (n : Nat) : Receiver.stored (.skip h n) = 0 := rfl

/-- HOLD tested, by the receiver's share of the totals. -/
theorem Port.testHold_eq (p : Port) :
    p.testHold =
      { p with hold := holdLevel (p.queue.length + p.rx.places) (waitingBytes p.queue + p.rx.stored) p.hold } := by
  rw [Port.testHold, Port.segTotal_eq, Port.byteTotal_eq]

@[simp] theorem Port.testHold_rx (p : Port) : p.testHold.rx = p.rx := rfl
@[simp] theorem Port.testHold_queue (p : Port) : p.testHold.queue = p.queue := rfl
@[simp] theorem Port.testHold_ffCount (p : Port) : p.testHold.ffCount = p.ffCount := rfl
@[simp] theorem Port.testHold_segTotal (p : Port) : p.testHold.segTotal = p.segTotal := rfl
@[simp] theorem Port.testHold_byteTotal (p : Port) : p.testHold.byteTotal = p.byteTotal := rfl

/-- On a way of rising totals only the last test of HOLD counts, where the first stands as its own test left it (R11). -/
theorem holdLevel_rising {a a₁ a₂ b b₁ b₂ : Nat} {h : Bool} (h0 : holdLevel a b h = h) (ha : a ≤ a₁) (ha' : a₁ ≤ a₂)
    (hb : b ≤ b₁) (hb' : b₁ ≤ b₂) : holdLevel a₂ b₂ (holdLevel a₁ b₁ h) = holdLevel a₂ b₂ h := by
  unfold holdLevel at h0 ⊢
  split_ifs at h0 ⊢ <;> grind

/-! ### What the owner of a segment leaves (R12 to R17) -/

theorem requestLoad_setPort (k : ObjId) (only : Bool) (v : Byte) (w h : Nat) (d : Depth) (code : List Byte) (p : Port)
    (s : State) :
    requestLoad k only v w h d code (s.setPort p) = (requestLoad k only v w h d code s).setPort p := by
  unfold requestLoad
  rw [State.setPort_store]
  split <;> rfl

theorem endHeldLoad_setPort (k : ObjId) (p : Port) (s : State) :
    endHeldLoad k (s.setPort p) = (endHeldLoad k s).setPort p := by
  unfold endHeldLoad
  rw [State.setPort_decoder]
  split <;> rfl

theorem joinLoad_setPort (k : ObjId) (last : Bool) (code : List Byte) (p : Port) (s : State) :
    joinLoad k last code (s.setPort p) = (joinLoad k last code s).setPort p := by
  unfold joinLoad
  dsimp only
  rw [State.setPort_decoder]
  split
  · split <;> rfl
  · split <;> rfl
  all_goals rfl

theorem takeFragment_setPort (b : List Byte) (p : Port) (s : State) :
    takeFragment b (s.setPort p) = (takeFragment b s).setPort p := by
  unfold takeFragment
  split
  · rfl
  · rw [endHeldLoad_setPort, requestLoad_setPort]
  · exact joinLoad_setPort _ _ _ p s

theorem takeDrop_setPort (b : List Byte) (p : Port) (s : State) :
    takeDrop b (s.setPort p) = (takeDrop b s).setPort p := by
  unfold takeDrop dropObject
  split
  · rfl
  · dsimp only; rw [State.setPort_store]; split <;> rfl

theorem takePalette_setPort (b : List Byte) (p : Port) (s : State) :
    takePalette b (s.setPort p) = (takePalette b s).setPort p := by
  unfold takePalette applyPalette
  rw [State.setPort_palette]
  split
  · rfl
  · split
    · rfl
    all_goals split_ifs <;> rfl

theorem takeScroll_setPort (b : List Byte) (p : Port) (s : State) :
    takeScroll b (s.setPort p) = (takeScroll b s).setPort p := by
  unfold takeScroll
  rw [State.setPort_engine]
  split
  · rfl
  · split_ifs <;> rfl

theorem takeShow_setPort (b : List Byte) (p : Port) (s : State) :
    takeShow b (s.setPort p) = (takeShow b s).setPort p := by
  unfold takeShow insertEntry
  rw [State.setPort_seq, State.setPort_engine]
  split
  · rfl
  · split_ifs <;> rfl

theorem takeSlideList_setPort (b : List Byte) (p : Port) (s : State) :
    takeSlideList b (s.setPort p) = (takeSlideList b s).setPort p := by
  unfold takeSlideList loadList
  rw [State.setPort_seq]
  split
  · rfl
  · split_ifs <;> rfl

/-- The owner of a content segment neither reads nor changes the segment port. -/
theorem takeSegment_setPort {g : Segment} (hx : g.kind.express = false) (p : Port) (s : State) :
    takeSegment g (s.setPort p) = (takeSegment g s).setPort p := by
  obtain ⟨k, b⟩ := g
  cases k with
  | setOpen => simp only [takeSegment, takeSetOpen]; split <;> rfl
  | objectData => exact takeFragment_setPort b p s
  | objectDrop => exact takeDrop_setPort b p s
  | palette => exact takePalette_setPort b p s
  | page => simp only [takeSegment, takePage]; split <;> rfl
  | buttons => simp only [takeSegment, takeButtons, State.setPort_engine]; split <;> rfl
  | animations => simp only [takeSegment, takeAnimations, State.setPort_engine]; split <;> rfl
  | scroll => exact takeScroll_setPort b p s
  | showPage => exact takeShow_setPort b p s
  | slideList => exact takeSlideList_setPort b p s
  | _ => exact nomatch hx

/-- A content segment leaves the port as it was. -/
theorem takeSegment_port {g : Segment} (hx : g.kind.express = false) (s : State) : (takeSegment g s).port = s.port :=
  show (takeSegment g (s.setPort s.port)).port = s.port by rw [takeSegment_setPort hx, State.setPort_port]

@[simp] theorem takeFragment_port (b : List Byte) (s : State) : (takeFragment b s).port = s.port :=
  show (takeFragment b (s.setPort s.port)).port = s.port by rw [takeFragment_setPort, State.setPort_port]

/-- An express segment leaves the front alone, but for a valid Restart (R13, R17). -/
theorem takeSegment_express {g : Segment} (hx : g.kind.express = true) (s : State) :
    (takeSegment g s).front = s.front ∨ takeSegment g s = restartPart s := by
  obtain ⟨k, b⟩ := g
  cases k with
  | restart => simp only [takeSegment, takeRestart]; split <;> simp
  | key | flags | clock | output | slideControl | statusRequest | attentionMask => left; simp [takeSegment]
  | _ => exact nomatch hx

theorem takeFragment_resetLow (b : List Byte) (s : State) : (takeFragment b s).resetLow = s.resetLow := by
  have he : ∀ k, (endHeldLoad k s).resetLow = s.resetLow := fun k => by unfold endHeldLoad; split <;> rfl
  unfold takeFragment
  split
  · rfl
  · unfold requestLoad; split <;> exact he _
  · unfold joinLoad
    dsimp only
    split
    · split <;> rfl
    · split <;> rfl
    all_goals rfl

theorem takeDrop_resetLow (b : List Byte) (s : State) : (takeDrop b s).resetLow = s.resetLow := by
  unfold takeDrop dropObject
  split
  · rfl
  · dsimp only; split <;> rfl

/-- No segment moves the reset pin. -/
@[simp] theorem takeSegment_resetLow (g : Segment) (s : State) : (takeSegment g s).resetLow = s.resetLow := by
  by_cases hx : g.kind.express = true
  · obtain h | h := takeSegment_express hx s
    · exact resetLow_of_front h
    · rw [h]; rfl
  · obtain ⟨k, b⟩ := g
    cases k with
    | setOpen => simp only [takeSegment, takeSetOpen]; split <;> simp [malformed, setOpen]
    | objectData => exact takeFragment_resetLow b s
    | objectDrop => exact takeDrop_resetLow b s
    | palette | page | buttons | animations | scroll | showPage | slideList =>
      exact resetLow_of_front (by simp [takeSegment])
    | _ => exact absurd (by rfl) hx

/-- Of the content segments only a fragment makes the decoder busy (R40, R52). -/
theorem takeSegment_free {g : Segment} (hx : g.kind.express = false) (hk : g.kind ≠ .objectData) {s : State}
    (hb : s.decoder.busy = false) : (takeSegment g s).decoder.busy = false := by
  obtain ⟨k, b⟩ := g
  cases k with
  | setOpen => simp only [takeSegment, takeSetOpen]; split; exacts [hb, rfl]
  | objectDrop =>
    have hd : ∀ k, (s.decoder.afterDrop k).busy = false := fun k => by
      cases h : s.decoder with
      | await l => simp only [Decoder.afterDrop]; split <;> rfl
      | decoding l p c => rw [h] at hb; exact hb
      | _ => rfl
    simp only [takeSegment, takeDrop, dropObject]
    split
    · exact hb
    · split <;> exact hd _
  | palette | page | buttons | animations | scroll | showPage | slideList =>
    rw [decoder_of_front (s := s) (by simp [takeSegment]), hb]
  | objectData => exact absurd rfl hk
  | _ => exact nomatch hx

end Sys2Proof.Machine
end

section
/-! PROOFS. Every step keeps the laws of the segment port (R9, R10, R11, R14, R18). -/

namespace Sys2Proof.Machine

open Sys2Proof

/-! ### The laws of the port by themselves -/

/-- The port is within its limits (R9, R10) and its receiver's fields fit its state. -/
structure Port.Within (p : Port) : Prop where
  segments : p.segTotal ≤ Config.maxSegments
  bytes : p.byteTotal ≤ Config.maxQueueBytes
  receiver : p.rx.Sound

/-- HOLD stands as its test leaves it (R11). -/
def Port.Tested (p : Port) : Prop := holdLevel p.segTotal p.byteTotal p.hold = p.hold

/-- The queue's head is a fragment while the decoder is busy, and nothing waits while it is free (R14). -/
structure QueueFits (s : State) : Prop where
  head : s.decoder.busy = true → ∃ g rest, s.port.queue = g :: rest ∧ g.kind = .objectData
  waits : s.decoder.busy = false → s.port.queue = []

theorem Port.testHold_tested (p : Port) : p.testHold.Tested := holdLevel_idem _ _ _

theorem Port.Within.testHold {p : Port} (h : p.Within) : p.testHold.Within := ⟨h.segments, h.bytes, h.receiver⟩

theorem PortInv.within {s : State} (h : PortInv s) : s.port.Within := ⟨h.segments, h.bytes, h.receiver⟩

theorem PortInv.fits {s : State} (h : PortInv s) : QueueFits s := ⟨h.head, h.waits⟩

/-- The laws of a part that is not held. -/
theorem PortInv.of_parts {s : State} (hl : s.resetLow = false) (hw : s.port.Within) (ht : s.port.Tested)
    (hq : QueueFits s) : PortInv s :=
  ⟨hw.segments, hw.bytes, hw.receiver, fun _ => ht, fun h => absurd (hl.symm.trans h) (by decide), hq.head, hq.waits⟩

/-- The laws look at the pin, the port and whether the decoder is busy. -/
theorem PortInv.congr {s t : State} (h : PortInv s) (hl : t.resetLow = s.resetLow) (hp : t.port = s.port)
    (hb : t.decoder.busy = s.decoder.busy) : PortInv t := by
  obtain ⟨h1, h2, h3, h4, h5, h6, h7⟩ := h
  constructor <;> simp only [hl, hp, hb] <;> assumption

theorem PortInv.of_front {s t : State} (h : PortInv s) (hf : t.front = s.front) : PortInv t :=
  h.congr (resetLow_of_front hf) (port_of_front hf) (congrArg Decoder.busy (decoder_of_front hf))

/-- The same receiver with another FF count. -/
theorem PortInv.setCount {s : State} (h : PortInv s) (hl : s.resetLow = false) (n : Fin 3) :
    PortInv (s.setPort { s.port with ffCount := n }) :=
  .of_parts hl ⟨h.segments, h.bytes, h.receiver⟩ (h.holdTested hl) ⟨h.head, h.waits⟩

/-- Another receiver after which HOLD is tested, on a queue that stands (R11). -/
theorem PortInv.changeRx {s : State} (h : PortInv s) (hl : s.resetLow = false) {rx : Receiver} (n : Fin 3)
    (hs : s.port.queue.length + rx.places ≤ Config.maxSegments)
    (hb : waitingBytes s.port.queue + rx.stored ≤ Config.maxQueueBytes) (hr : rx.Sound) : PortInv (s.changeRx rx n) :=
  .of_parts hl ⟨by rwa [Port.segTotal_eq], by rwa [Port.byteTotal_eq], hr⟩ (Port.testHold_tested _) ⟨h.head, h.waits⟩

/-- Another receiver that takes no more and no less of the queue. -/
theorem PortInv.setRx {s : State} (h : PortInv s) (hl : s.resetLow = false) {rx : Receiver} (n : Fin 3)
    (hp : rx.places = s.port.rx.places) (hb : rx.stored = s.port.rx.stored) (hr : rx.Sound) : PortInv (s.setRx rx n) := by
  have e1 : (s.setRx rx n).port.segTotal = s.port.segTotal := by
    rw [Port.segTotal_eq, Port.segTotal_eq]; exact congrArg _ hp
  have e2 : (s.setRx rx n).port.byteTotal = s.port.byteTotal := by
    rw [Port.byteTotal_eq, Port.byteTotal_eq]; exact congrArg _ hb
  refine .of_parts hl ⟨e1 ▸ h.segments, e2 ▸ h.bytes, hr⟩ ?_ ⟨h.head, h.waits⟩
  rw [Port.Tested, e1, e2]
  exact h.holdTested hl

/-! ### The router (R13, R14) -/

/-- What the router keeps while it takes at most `n` waiting segments (R14). -/
structure Drainable (n : Nat) (s : State) : Prop where
  pin : s.resetLow = false
  fuel : s.port.queue.length ≤ n
  within : s.port.Within
  tested : s.port.Tested
  head : s.decoder.busy = true → ∃ g rest, s.port.queue = g :: rest ∧ g.kind = .objectData

theorem Drainable.portInv {n : Nat} {s : State} (h : Drainable n s) (hw : s.decoder.busy = false → s.port.queue = []) :
    PortInv s := .of_parts h.pin h.within h.tested ⟨h.head, hw⟩

theorem PortInv.drainable {n : Nat} {s : State} (h : PortInv s) (hl : s.resetLow = false)
    (hn : s.port.queue.length ≤ n) : Drainable n s := ⟨hl, hn, h.within, h.holdTested hl, h.head⟩

/-- Only the decoder, which is free, has moved. -/
theorem Drainable.congr {n : Nat} {s t : State} (h : Drainable n s) (hl : t.resetLow = s.resetLow)
    (hp : t.port = s.port) (hb : t.decoder.busy = false) : Drainable n t :=
  ⟨hl.trans h.pin, hp ▸ h.fuel, hp ▸ h.within, hp ▸ h.tested, fun h' => absurd (hb.symm.trans h') (by decide)⟩

theorem waitingBytes_tail_le (q : List Segment) : waitingBytes q.tail ≤ waitingBytes q := by
  cases q <;> simp [waitingBytes]

/-- The head leaves the queue, which lowers the totals, and HOLD is tested (R11). -/
theorem Port.Within.leaveHead {s : State} (h : s.port.Within) : (leaveHead s).port.Within := by
  have hs := h.segments
  have hb := h.bytes
  have ht := waitingBytes_tail_le s.port.queue
  rw [Port.segTotal_eq] at hs
  rw [Port.byteTotal_eq] at hb
  refine Port.Within.testHold ⟨?_, ?_, h.receiver⟩
  · rw [Port.segTotal_eq]; simp only [List.length_tail]; omega
  · rw [Port.byteTotal_eq]; dsimp only; omega

theorem Drainable.leaveHead {n : Nat} {s : State} (h : Drainable (n + 1) s) (hb : s.decoder.busy = false) :
    Drainable n (leaveHead s) :=
  ⟨h.pin, by have := h.fuel; simp [Machine.leaveHead]; omega, h.within.leaveHead, Port.testHold_tested _,
    fun h' => absurd (hb.symm.trans h') (by decide)⟩

theorem restartPart_portInv {s : State} (hl : s.resetLow = false) : PortInv (restartPart s) := by
  refine .of_parts hl ⟨?_, ?_, trivial⟩ rfl ⟨(nomatch ·), fun _ => rfl⟩
  · exact Nat.zero_le 32
  · exact Nat.zero_le 16384

/-- A segment other than a fragment leaves a free decoder free and the queue as it is, but for a Restart. -/
theorem Drainable.take {n : Nat} {s : State} (h : Drainable n s) (hb : s.decoder.busy = false) {g : Segment}
    (hk : g.kind ≠ .objectData) : Drainable n (takeSegment g s) := by
  by_cases hx : g.kind.express = true
  · obtain hf | hr := takeSegment_express hx s
    · exact h.congr (by simp) (port_of_front hf) (by rw [decoder_of_front hf, hb])
    · rw [hr]
      exact (restartPart_portInv h.pin).drainable h.pin (Nat.zero_le n)
  · rw [Bool.not_eq_true] at hx
    exact h.congr (by simp) (takeSegment_port hx s) (takeSegment_free hx hk hb)

/-- The taking of waiting content keeps the laws, and leaves content only behind a busy decoder (R14). -/
theorem Drainable.drainContent {n : Nat} {s : State} (h : Drainable n s) : PortInv (drainContent n s) := by
  induction n generalizing s with
  | zero => exact h.portInv fun _ => List.length_eq_zero_iff.mp (Nat.le_zero.mp h.fuel)
  | succ n ih =>
    unfold Machine.drainContent
    split
    · next hb => exact h.portInv fun h' => absurd (hb.symm.trans h') (by decide)
    · next hb =>
      rw [Bool.not_eq_true] at hb
      split
      · next hq => exact h.portInv fun _ => hq
      · next g rest hq =>
        split
        · next hk =>
          dsimp only
          have hp := takeFragment_port g.body s
          have hl := takeFragment_resetLow g.body s
          split
          · next hb' =>
            refine .of_parts (hl.trans h.pin) (hp ▸ h.within) (hp ▸ h.tested)
              ⟨fun _ => ⟨g, rest, by rw [hp, hq], hk⟩, fun h' => absurd (hb'.symm.trans h') (by decide)⟩
          · next hb' =>
            rw [Bool.not_eq_true] at hb'
            exact ih ((h.congr hl hp hb').leaveHead hb')
        · next hk => exact ih ((h.leaveHead hb).take hb hk)

/-- A segment that finds a place and room is routed (R13, R14). -/
theorem routeSegment_portInv {g : Segment} {s : State} (hl : s.resetLow = false) (hr : s.port.rx.Sound)
    (hq : QueueFits s) (hs : s.port.segTotal < Config.maxSegments)
    (hb : s.port.byteTotal + g.body.length ≤ Config.maxQueueBytes) : PortInv (routeSegment g s) := by
  unfold routeSegment
  split
  · next hx =>
    have hi : PortInv (s.setPort s.port.testHold) :=
      .of_parts hl (Port.Within.testHold ⟨hs.le, by omega, hr⟩) (Port.testHold_tested _) ⟨hq.head, hq.waits⟩
    obtain hf | h := takeSegment_express hx (s.setPort s.port.testHold)
    · exact hi.of_front hf
    · rw [h]; exact restartPart_portInv hl
  · refine Drainable.drainContent ⟨hl, ?_, Port.Within.testHold ⟨?_, ?_, hr⟩, Port.testHold_tested _, fun h => ?_⟩
    · simp [joinQueue]
    · rw [Port.joined_segTotal]; exact hs
    · rwa [Port.joined_byteTotal]
    · obtain ⟨g', rest, e, hk⟩ := hq.head h
      exact ⟨g', rest ++ [g], by simp [joinQueue, e], hk⟩

/-- The FF count that refused bytes leave in HUNT touches no law. -/
theorem PortInv.hunted {s : State} {p : Port} (h : PortInv (s.setPort p)) (hl : s.resetLow = false) (n : Fin 3) :
    PortInv (s.setPort (p.hunted n)) :=
  .of_parts hl ⟨by simpa using h.segments, by simpa using h.bytes, by simpa using h.receiver⟩
    (by simpa [Port.Tested] using h.holdTested hl) ⟨by simpa using h.head, by simpa using h.waits⟩

/-- HOLD tested as a segment comes and goes. -/
theorem PortInv.visit {s : State} (h : PortInv s) (hl : s.resetLow = false) (n : Nat) :
    PortInv (s.setPort (s.port.visit n)) :=
  .of_parts hl (Port.Within.testHold ⟨by simpa using h.segments, by simpa using h.bytes, by simpa using h.receiver⟩)
    (Port.testHold_tested _) ⟨by simpa [Port.visit] using h.head, by simpa [Port.visit] using h.waits⟩

/-- The arrival of a whole segment, refused or routed (log entry 3). -/
theorem present_portInv {s : State} (h : PortInv s) (hl : s.resetLow = false) (g : Segment) : PortInv (present g s) := by
  unfold present arrivalRefusal
  split_ifs with h1 h2 h3
  · exact (h.hunted hl _).of_front (raise_front _ _)
  · exact ((h.visit hl 0).hunted hl _).of_front (raise_front _ _)
  · exact ((h.visit hl _).hunted hl _).of_front (raise_front _ _)
  · refine routeSegment_portInv hl (by simpa using h.receiver) ⟨by simpa using h.head, by simpa using h.waits⟩ ?_ ?_
    · simpa using h1
    · simpa using h3

theorem completeFragment_port (l : Load) (pos : Position) (code : List Byte) (s : State) :
    (completeFragment l pos code s).port = s.port := by
  unfold completeFragment
  split
  · rfl
  · cases pos <;> rfl

theorem completeFragment_resetLow (l : Load) (pos : Position) (code : List Byte) (s : State) :
    (completeFragment l pos code s).resetLow = s.resetLow := by
  unfold completeFragment
  split
  · rfl
  · cases pos <;> rfl

/-- A completed fragment leaves the decoder free (R43). -/
theorem completeFragment_free (l : Load) (pos : Position) (code : List Byte) (s : State) :
    (completeFragment l pos code s).decoder.busy = false := by
  unfold completeFragment
  split
  · rfl
  · cases pos <;> rfl

/-- The fragment in hand is done, its successors are taken (R14, R43). -/
theorem fragmentDone_portInv {s : State} (h : PortInv s) (hl : s.resetLow = false) : PortInv (fragmentDone s) := by
  unfold fragmentDone
  split
  · next l pos code hd =>
    have hb := completeFragment_free l pos code s
    exact (((h.drainable hl (Nat.le_succ _)).congr (completeFragment_resetLow l pos code s)
      (completeFragment_port l pos code s) hb).leaveHead hb).drainContent
  all_goals exact h

/-! ### The receiver (1.1 to 1.3) -/

theorem PortInv.totals {s : State} (h : PortInv s) : s.port.queue.length + s.port.rx.places ≤ Config.maxSegments ∧
    waitingBytes s.port.queue + s.port.rx.stored ≤ Config.maxQueueBytes :=
  ⟨Port.segTotal_eq _ ▸ h.segments, Port.byteTotal_eq _ ▸ h.bytes⟩

theorem discardSegment_rx (s : State) : (discardSegment s).port.rx = .hunt := by
  unfold discardSegment; split <;> rfl

theorem discardSegment_resetLow (s : State) : (discardSegment s).resetLow = s.resetLow := by
  unfold discardSegment; split <;> rfl

/-- The segment in reception is given up (R4, R5, R10). -/
theorem discardSegment_portInv {s : State} (h : PortInv s) (hl : s.resetLow = false) : PortInv (discardSegment s) := by
  obtain ⟨hs, hb⟩ := h.totals
  unfold discardSegment
  split
  · exact h.changeRx hl 0 (by simpa using by omega) (by simpa using by omega) trivial
  · exact h.changeRx hl 0 (by simpa using by omega) (by simpa using by omega) trivial
  · next hx => exact h.setRx hl 0 (by rw [hx]) (by rw [hx]) trivial
  · next hx => exact h.setRx hl 0 (by rw [hx]; rfl) (by rw [hx]; rfl) trivial

/-- A marker opens a segment where a place is left (R2, R10). -/
theorem openReception_portInv {s : State} (h : PortInv s) (hl : s.resetLow = false) (hx : s.port.rx = .hunt) :
    PortInv (openReception s) := by
  obtain ⟨hs, hb⟩ := h.totals
  unfold openReception
  split
  · exact PortInv.of_front (h.setRx hl 0 (rx := .hunt) (by rw [hx]) (by rw [hx]) trivial) (raise_front _ _)
  · next hfull =>
    rw [Port.segTotal_eq, hx, Receiver.places_hunt, Nat.not_le] at hfull
    exact h.changeRx hl 0 hfull (by simpa using by omega) (by simp [Receiver.Sound])

/-- A byte in HUNT (R2). -/
theorem huntByte_portInv {s : State} (h : PortInv s) (hl : s.resetLow = false) (hx : s.port.rx = .hunt) (b : Byte) :
    PortInv (huntByte b s) := by
  have hr (n : Fin 3) : PortInv (s.setRx .hunt n) := h.setRx hl n (by rw [hx]) (by rw [hx]) trivial
  unfold huntByte
  split_ifs
  · exact hr _
  · exact openReception_portInv h hl hx
  · exact hr 0

/-- The byte after two FF bytes inside a segment (R3, R4, R5). -/
theorem afterDoubleFF_portInv {s : State} (h : PortInv s) (hl : s.resetLow = false) (b : Byte) :
    PortInv (afterDoubleFF b s) := by
  have hd := discardSegment_portInv h hl
  have hl' : (discardSegment s).resetLow = false := (discardSegment_resetLow s).trans hl
  have hx := discardSegment_rx s
  unfold afterDoubleFF
  split_ifs
  · exact h.setCount hl 0
  · unfold markerInside
    dsimp only
    split
    · exact openReception_portInv (hd.of_front (raise_front _ _)) hl' hx
    · exact openReception_portInv (hd.of_front (raise_front _ _)) hl' hx
    all_goals exact openReception_portInv hd hl' hx
  · exact huntByte_portInv (hd.of_front (raise_front _ _)) hl' hx b

/-- A segment that completes gives its place in the receiver to the router (R8). -/
theorem completeSegment_portInv {s : State} (hl : s.resetLow = false) (hq : QueueFits s) (k : Kind) {body : List Byte}
    (hs : s.port.queue.length < Config.maxSegments)
    (hb : waitingBytes s.port.queue + body.length ≤ Config.maxQueueBytes) : PortInv (completeSegment k body s) :=
  routeSegment_portInv hl trivial ⟨hq.head, hq.waits⟩ (by rwa [Port.segTotal_eq]) (by rwa [Port.byteTotal_eq])

/-- A refused segment is skipped, or over at once (R6, R7). -/
theorem enterSkip_portInv {s : State} (h : PortInv s) (hl : s.resetLow = false) {x : Header} (n : Fin 3)
    (hx : x.length ≤ Config.maxBody) : PortInv (enterSkip x n s) := by
  obtain ⟨hs, hb⟩ := h.totals
  unfold enterSkip
  split
  · exact h.changeRx hl 0 (by simpa using by omega) (by simpa using by omega) trivial
  · exact h.changeRx hl n (by simpa using by omega) (by simpa using by omega) ⟨by omega, hx⟩

/-- The header checks (R6). -/
theorem checkHeader_portInv {s : State} (h : PortInv s) (hl : s.resetLow = false) {got : List Byte}
    (hg : s.port.rx = .header got) (x : Header) (n : Fin 3) : PortInv (checkHeader x n s) := by
  obtain ⟨hs, hb⟩ := h.totals
  have skipped (r : ReportBody) (hx : x.length ≤ Config.maxBody) : PortInv (enterSkip x n (s.raise r)) :=
    enterSkip_portInv (h.of_front (raise_front s r)) hl n hx
  unfold checkHeader
  split
  · exact (discardSegment_portInv h hl).of_front (raise_front _ _)
  · next hx =>
    rw [Nat.not_lt] at hx
    split
    · exact skipped _ hx
    · next k hk =>
      split_ifs
      · exact skipped _ hx
      · exact skipped _ hx
      · exact completeSegment_portInv hl h.fits k (by rw [hg] at hs; exact hs) (by simpa using by omega)
      · exact h.setRx hl n (by rw [hg]; rfl) (by rw [hg]; rfl) ⟨by simp; omega, hx, by rw [hk]; rfl⟩

/-- A segment byte in BODY (R8, R10). -/
theorem bodyByte_portInv {s : State} (h : PortInv s) (hl : s.resetLow = false) {x : Header} {got : List Byte}
    (hg : s.port.rx = .body x got) (b : Byte) : PortInv (bodyByte x got b s) := by
  obtain ⟨hs, hb⟩ := h.totals
  obtain ⟨hlt, hmax, hk⟩ : got.length < x.length ∧ x.length ≤ Config.maxBody ∧ (kindOf x.kind).isSome = true := by
    have := h.receiver; rwa [hg] at this
  unfold bodyByte
  split
  · exact huntByte_portInv ((discardSegment_portInv h hl).of_front (raise_front _ _))
      ((discardSegment_resetLow s).trans hl) (discardSegment_rx s) b
  · next hroom =>
    rw [Port.byteTotal_eq, hg, Receiver.stored_body, Nat.not_le] at hroom
    rw [hg, Receiver.places_body] at hs
    dsimp only
    have hlen : (got ++ [b]).length = got.length + 1 := by simp
    split
    · next hlt' => exact h.changeRx hl _ hs (by rw [Receiver.stored_body]; omega) ⟨hlt', hmax, hk⟩
    · split
      · next k _ => exact completeSegment_portInv (s := s.changeRx _ _) hl ⟨h.head, h.waits⟩ k hs (by rw [hlen]; exact hroom)
      · next hn => rw [hn] at hk; cases hk

/-- A segment byte in SKIP (R7). -/
theorem skipByte_portInv {s : State} (h : PortInv s) (hl : s.resetLow = false) {x : Header} {n : Nat}
    (hg : s.port.rx = .skip x n) (b : Byte) : PortInv (skipByte x n b s) := by
  have hmax : x.length ≤ Config.maxBody := by have := h.receiver; rw [hg] at this; exact this.2
  unfold skipByte
  split
  · next hlt => exact h.setRx hl _ (by rw [hg]; rfl) (by rw [hg]; rfl) ⟨hlt, hmax⟩
  · exact h.setRx hl 0 (by rw [hg]; rfl) (by rw [hg]; rfl) trivial

/-- A segment byte in HEADER (R3, R6). -/
theorem headerByte_portInv {s : State} (h : PortInv s) (hl : s.resetLow = false) {got : List Byte}
    (hg : s.port.rx = .header got) (b : Byte) : PortInv (headerByte got b s) := by
  unfold headerByte
  dsimp only
  split
  · next hlt => exact h.setRx hl _ (by rw [hg]; rfl) (by rw [hg]; rfl) hlt
  · exact checkHeader_portInv h hl hg _ _

/-- One byte strobed into the segment port (R1, R3). -/
theorem receiveByte_portInv {s : State} (h : PortInv s) (hl : s.resetLow = false) (b : Byte) :
    PortInv (receiveByte b s) := by
  unfold receiveByte
  split
  · next hx => exact huntByte_portInv h hl hx b
  · next hx => split; exacts [afterDoubleFF_portInv h hl b, headerByte_portInv h hl hx b]
  · next hx => split; exacts [afterDoubleFF_portInv h hl b, bodyByte_portInv h hl hx b]
  · next hx => split; exacts [afterDoubleFF_portInv h hl b, skipByte_portInv h hl hx b]

/-! ### The reset pin (R18) -/

theorem assertReset_portInv (s : State) : PortInv (assertReset s) :=
  ⟨Nat.zero_le 32, Nat.zero_le 16384, trivial, (nomatch ·), fun _ => rfl, (nomatch ·), fun _ => rfl⟩

theorem releaseReset_portInv {s : State} (h : PortInv s) : PortInv (releaseReset s) := by
  unfold releaseReset
  split
  · exact .of_parts rfl ⟨Nat.zero_le 32, Nat.zero_le 16384, trivial⟩ rfl ⟨(nomatch ·), fun _ => rfl⟩
  · exact h

/-! ### The commands -/

/-- A command that acts while the pin is high keeps the laws if it keeps them there (R18). -/
theorem unlessHeld_portInv {s : State} {f : State → State} (h : PortInv s)
    (hf : s.resetLow = false → PortInv (f s)) : PortInv (unlessHeld f s) := by
  unfold unlessHeld
  split
  · exact h
  · next hl => exact hf (Bool.not_eq_true _ ▸ hl)

/-- A command that leaves the front alone keeps the laws. -/
theorem unlessHeld_portInv_of_front {s : State} {f : State → State} (h : PortInv s) (hf : (f s).front = s.front) :
    PortInv (unlessHeld f s) := unlessHeld_portInv h fun _ => h.of_front hf

theorem transitionDone_front (c : Ctx) (s : State) : (transitionDone c s).front = s.front := by
  unfold transitionDone
  split
  · split <;> simp
  all_goals rfl

theorem activationDone_front (c : NavCtx) (s : State) : (activationDone c s).front = s.front := by
  unfold activationDone
  split
  · split <;> simp
  · rfl

theorem playheadDone_front (c : NavCtx) (i : Nat) (s : State) : (playheadDone c i s).front = s.front := by
  unfold playheadDone; dsimp only; split <;> rfl

theorem dwellDone_front (s : State) : (dwellDone s).front = s.front := by
  unfold dwellDone expireDwell
  split
  · split
    · split <;> simp
    all_goals rfl
  · rfl

theorem readyDone_front (s : State) : (readyDone s).front = s.front := by
  unfold readyDone markReady
  split
  · split <;> rfl
  · rfl

theorem lateDone_front (s : State) : (lateDone s).front = s.front := by
  unfold lateDone
  split
  · split <;> simp
  · rfl

/-- Every command keeps the laws of the segment port. -/
theorem exec_portInv {s t : State} (h : PortInv s) (c : Instr) (he : exec c s = .next t) : PortInv t := by
  cases hg : segmentOf c with
  | some g =>
    obtain rfl := Host.Outcome.next.inj ((exec_segmentOf hg s).symm.trans he)
    exact unlessHeld_portInv h fun hl => present_portInv h hl g
  | none =>
    cases c with
    | segmentByte b => cases he; exact unlessHeld_portInv h fun hl => receiveByte_portInv h hl b
    | fragmentComplete => cases he; exact unlessHeld_portInv h fun hl => fragmentDone_portInv h hl
    | engineFrameStart => cases he; exact unlessHeld_portInv_of_front h (engineStart_front s)
    | transitionEnd x => cases he; exact unlessHeld_portInv_of_front h (transitionDone_front x s)
    | storeFrameStart => cases he; exact unlessHeld_portInv h fun _ => h.congr (by simp) (by simp) (by simp)
    | paletteFrameStart => cases he; exact unlessHeld_portInv_of_front h (paletteStart_front s)
    | mixerFrameStart => cases he; exact unlessHeld_portInv_of_front h rfl
    | line l => cases he; exact h.of_front (by split <;> simp)
    | mixerFrameEnd => cases he; exact unlessHeld_portInv_of_front h (by simp [settleSkew])
    | storeFrameEnd =>
      cases he
      exact unlessHeld_portInv h fun _ => h.congr (by simp [settleSkew]) (by simp [settleSkew]) (by simp [settleSkew])
    | navFrameEnd => cases he; exact unlessHeld_portInv_of_front h (by simp [settleSkew])
    | activationExpiry x => cases he; exact unlessHeld_portInv_of_front h (activationDone_front x s)
    | playheadStep x i => cases he; exact unlessHeld_portInv_of_front h (playheadDone_front x i s)
    | sequencerFrameEnd => cases he; exact unlessHeld_portInv_of_front h (by simp [settleSkew])
    | dwellExpiry => cases he; exact unlessHeld_portInv_of_front h (dwellDone_front s)
    | slideReady => cases he; exact unlessHeld_portInv_of_front h (readyDone_front s)
    | lateSlide => cases he; exact unlessHeld_portInv_of_front h (lateDone_front s)
    | timeTrigger => cases he; exact unlessHeld_portInv_of_front h (testTime_front s)
    | readStrobe => cases he; exact h.of_front (by split <;> simp)
    | resetNAsserted => cases he; exact assertReset_portInv s
    | resetNReleased => cases he; exact releaseReset_portInv h
    | _ => exact nomatch hg

/-- Settles O13: every command keeps the laws, whatever waits behind it. -/
theorem portLawsKept : Obligations.PortLawsKept := by
  intro s t h hs
  unfold step at hs
  split at hs
  · cases hs; exact h
  · next c rest _ => exact exec_portInv (h.congr (t := { s with pending := rest }) rfl rfl rfl) c hs

end Sys2Proof.Machine
end

section
/-! PROOFS. What each byte does in each state of the receiver (R2 to R8, R10). -/

namespace Sys2Proof.Machine

open Sys2Proof

/-! ### The operations of the receiver, as ports -/

theorem exec_segmentByte {s : State} (hl : s.resetLow = false) (b : Byte) :
    exec (.segmentByte b) s = .next (receiveByte b s) := by
  show Host.Outcome.next (unlessHeld (receiveByte b) s) = _
  rw [unlessHeld, hl]; rfl

theorem receiveByte_hunt {s : State} (hx : s.port.rx = .hunt) (b : Byte) : receiveByte b s = huntByte b s := by
  unfold receiveByte; rw [hx]

theorem receiveByte_double {s : State} (hx : s.port.rx ≠ .hunt) (hc : s.port.ffCount = 2) (b : Byte) :
    receiveByte b s = afterDoubleFF b s := by
  unfold receiveByte
  split
  · next h => exact absurd h hx
  all_goals exact if_pos hc

theorem receiveByte_header {s : State} {got : List Byte} (hx : s.port.rx = .header got) (hc : s.port.ffCount ≠ 2)
    (b : Byte) : receiveByte b s = headerByte got b s := by
  unfold receiveByte; rw [hx]; exact if_neg hc

theorem receiveByte_body {s : State} {h : Header} {got : List Byte} (hx : s.port.rx = .body h got)
    (hc : s.port.ffCount ≠ 2) (b : Byte) : receiveByte b s = bodyByte h got b s := by
  unfold receiveByte; rw [hx]; exact if_neg hc

theorem receiveByte_skip {s : State} {h : Header} {n : Nat} (hx : s.port.rx = .skip h n) (hc : s.port.ffCount ≠ 2)
    (b : Byte) : receiveByte b s = skipByte h n b s := by
  unfold receiveByte; rw [hx]; exact if_neg hc

/-- HOLD once the receiver has given up the place of the segment in reception, if it holds one (R11). -/
def Port.holdGone (p : Port) : Bool :=
  match p.rx with
  | .header _ | .body _ _ => holdLevel p.queue.length (waitingBytes p.queue) p.hold
  | .hunt | .skip _ _ => p.hold

/-- HOLD is tested where the totals have changed (R11). -/
theorem changeRx_eq (s : State) (rx : Receiver) (n : Fin 3) :
    s.changeRx rx n = s.setPort { s.port with
      rx := rx, ffCount := n
      hold := holdLevel (s.port.queue.length + rx.places) (waitingBytes s.port.queue + rx.stored) s.port.hold } := by
  rw [State.changeRx, Port.testHold_eq]

/-- The segment in reception is given up (R4, R5, R10). -/
theorem discardSegment_eq (s : State) :
    discardSegment s = s.setPort { s.port with rx := .hunt, ffCount := 0, hold := s.port.holdGone } := by
  unfold discardSegment Port.holdGone
  cases h : s.port.rx with
  | header got => simp only [changeRx_eq]; rfl
  | body x got => simp only [changeRx_eq]; rfl
  | _ => rfl

/-- A hunting receiver takes another FF count. -/
theorem setRx_hunt {s : State} (hx : s.port.rx = .hunt) (n : Fin 3) :
    s.setRx .hunt n = s.setPort { s.port with ffCount := n } := by rw [State.setRx, ← hx]

/-- A marker found in HUNT (R2, R10). -/
theorem openReception_eq {s : State} (hx : s.port.rx = .hunt) :
    openReception s =
      if 32 ≤ s.port.queue.length then
        (s.setPort { s.port with ffCount := 0 }).raise (.overrun 0xFF 0 .segments)
      else s.setPort { s.port with
        rx := .header [], ffCount := 0
        hold := holdLevel (s.port.queue.length + 1) (waitingBytes s.port.queue) s.port.hold } := by
  rw [openReception, Port.segTotal_eq, changeRx_eq, setRx_hunt hx, hx]; rfl

/-- A byte in HUNT right after a segment has been given up (R5, R10). -/
theorem huntByte_first {s : State} (hx : s.port.rx = .hunt) (hc : s.port.ffCount = 0) (b : Byte) :
    huntByte b s = s.setPort { s.port with ffCount := if b = 0xFF then 1 else 0 } := by
  rw [huntByte, hc, setRx_hunt hx, setRx_hunt hx]
  split_ifs with h1 h2
  · rfl
  · exact absurd h2.2 (by decide)
  · rfl

/-- A marker inside a segment (R4). -/
theorem markerInside_eq (s : State) :
    markerInside s = openReception ((discardSegment s).setReport (match s.port.rx with
      | .header _ | .body _ _ => s.report.enqueue s.engine.fc (.truncated s.port.rx.kindByte s.port.rx.received)
      | .hunt | .skip _ _ => s.report)) := by
  rw [markerInside, discardSegment_eq]
  cases s.port.rx <;> rfl

/-- A framing violation (R5). -/
theorem framingViolation_eq (b : Byte) (s : State) :
    framingViolation b s = { s with
      port := { s.port with rx := .hunt, ffCount := if b = 0xFF then 1 else 0, hold := s.port.holdGone }
      report := s.report.enqueue s.engine.fc (.framing s.port.rx.kindByte s.port.rx.received) } := by
  rw [framingViolation, discardSegment_eq, huntByte_first rfl rfl]; rfl

/-- Settles O6. -/
theorem byteInHunt : Obligations.ByteInHunt := by
  intro b s hl hx
  rw [exec_segmentByte hl, receiveByte_hunt hx, huntByte, openReception_eq hx, setRx_hunt hx, setRx_hunt hx]
  rfl

/-- Settles O7, by the three bytes of R3 and the state of the receiver. -/
theorem byteAfterTwoFF : Obligations.ByteAfterTwoFF := by
  intro b s hl hx hc bytes gone opening kind got
  have hgone : s.port.holdGone = gone := by
    unfold gone Port.holdGone
    cases h : s.port.rx with
    | hunt => exact absurd h hx
    | _ => rfl
  have hopen (r : ReportUnit) : openReception ((discardSegment s).setReport r) = opening r := by
    rw [discardSegment_eq, openReception_eq rfl, hgone]; rfl
  rw [exec_segmentByte hl, receiveByte_double hx hc, afterDoubleFF, framingViolation_eq, markerInside_eq, hopen, hgone]
  refine congrArg _ (ite_congr rfl (fun _ => rfl) fun _ => ite_congr rfl (fun _ => ?_) fun _ => rfl)
  cases h : s.port.rx with
  | hunt => exact absurd h hx
  | _ => simp only [kind, got, h]

/-! ### The header checks (R6, R12) -/

/-- The known kind codes (R12). -/
theorem kindOf_isSome (b : Byte) :
    (kindOf b).isSome = true ↔ 0x10 ≤ b.toNat ∧ b.toNat ≤ 0x19 ∨ 0x20 ≤ b.toNat ∧ b.toNat ≤ 0x27 := by
  unfold kindOf
  generalize b.toNat = n
  split
  case h_19 => simp only [Option.isSome_none, Bool.false_eq_true, false_iff]; grind
  all_goals simp

/-- A kind is that of its code. -/
@[simp] theorem kindOf_code (k : Kind) : kindOf k.code = some k := by cases k <;> rfl

/-- The express kinds are those from code 0x20 on (R12). -/
theorem express_iff_code (k : Kind) : k.express = true ↔ 0x20 ≤ k.code.toNat := by cases k <;> decide

theorem countAfter_eq (n : Fin 3) (b : Byte) : countAfter n b = if b = 0xFF then (if n = 0 then 1 else 2) else 0 := rfl

/-- A refused segment whose header has arrived (R6, R7). -/
theorem enterSkip_eq (s : State) (h : Header) (n : Fin 3) :
    enterSkip h n s = s.setPort
      (if h.length = 0 then
        { s.port with
          rx := .hunt, ffCount := 0, hold := holdLevel s.port.queue.length (waitingBytes s.port.queue) s.port.hold }
      else
        { s.port with
          rx := .skip h 0, ffCount := n
          hold := holdLevel s.port.queue.length (waitingBytes s.port.queue) s.port.hold }) := by
  unfold enterSkip
  split <;> rw [changeRx_eq] <;> rfl

/-- Settles O8, by the checks in their order. -/
theorem headerChecks : Obligations.HeaderChecks := by
  intro kind source l1 l0 s hl hx hc n h count gone skipped
  refine ⟨kindOf_isSome, fun k => ⟨kindOf_code k, express_iff_code k⟩, ?_⟩
  have hgone : s.port.holdGone = gone := by unfold Port.holdGone; rw [hx]
  have hskip (r : ReportBody) : enterSkip h count (s.raise r) =
      { s with port := skipped, report := s.report.enqueue s.engine.fc r } := by rw [enterSkip_eq]; rfl
  have he : headerByte [kind, source, l1] l0 s = checkHeader h count s := rfl
  rw [exec_segmentByte hl, receiveByte_header hx hc, he, checkHeader, discardSegment_eq, hgone]
  by_cases hn : 4000 < n
  · rw [if_pos hn, if_pos hn]; rfl
  rw [if_neg hn, if_neg hn]
  cases hk : kindOf kind with
  | none => simp only [h]; exact congrArg _ (hskip _)
  | some k =>
    simp only [h]
    split_ifs
    · exact congrArg _ (hskip _)
    · exact congrArg _ (hskip _)
    all_goals rfl

/-! ### Bytes of a body (R7, R8, R10) -/

/-- A body byte at the byte limit (R10). -/
theorem bodyByte_full {s : State} {h : Header} {got : List Byte} (hx : s.port.rx = .body h got)
    (hf : 16384 ≤ waitingBytes s.port.queue + got.length) (b : Byte) :
    bodyByte h got b s =
      huntByte b ((discardSegment s).raise (.overrun h.kind (4 + got.length) .bytes)) := by
  have hf' : Config.maxQueueBytes ≤ s.port.byteTotal := by rw [Port.byteTotal_eq, hx]; exact hf
  rw [bodyByte, if_pos hf']

/-- A body byte that is stored with more to come (R8, R11). -/
theorem bodyByte_stored {s : State} {h : Header} {got : List Byte} (hx : s.port.rx = .body h got)
    (hf : waitingBytes s.port.queue + got.length < 16384) (hlt : got.length + 1 < h.length) (b : Byte) :
    bodyByte h got b s = s.setPort { s.port with
      rx := .body h (got ++ [b]), ffCount := countAfter s.port.ffCount b
      hold := holdLevel (s.port.queue.length + 1) (waitingBytes s.port.queue + got.length + 1) s.port.hold } := by
  have hf' : ¬Config.maxQueueBytes ≤ s.port.byteTotal := by rw [Port.byteTotal_eq, hx]; exact Nat.not_le.mpr hf
  have hg : (got ++ [b]).length = got.length + 1 := by simp
  simp only [bodyByte, if_neg hf', changeRx_eq, hg, if_pos hlt, Receiver.places_body, Receiver.stored_body,
    ← Nat.add_assoc]

/-- The last byte of a segment of a known kind: it is counted, and the segment routed (R8, R11). -/
theorem bodyByte_last {s : State} {h : Header} {got : List Byte} (hx : s.port.rx = .body h got)
    (hf : waitingBytes s.port.queue + got.length < 16384) (hlast : got.length + 1 = h.length) (b : Byte) {k : Kind}
    (hk : kindOf h.kind = some k) :
    bodyByte h got b s = routeSegment ⟨k, got ++ [b]⟩ (s.setPort { s.port with
      rx := .hunt, ffCount := 0
      hold := holdLevel (s.port.queue.length + 1) (waitingBytes s.port.queue + got.length + 1) s.port.hold }) := by
  have hf' : ¬Config.maxQueueBytes ≤ s.port.byteTotal := by rw [Port.byteTotal_eq, hx]; exact Nat.not_le.mpr hf
  have hg : (got ++ [b]).length = got.length + 1 := by simp
  simp only [bodyByte, if_neg hf', changeRx_eq, hk, hg, if_neg hlast.not_lt, completeSegment, Receiver.places_body,
    Receiver.stored_body, ← Nat.add_assoc]
  rfl

/-- Settles O9: a body byte at the limit, one stored, the last one; a byte of a skip. -/
theorem bodyAndSkipBytes : Obligations.BodyAndSkipBytes := by
  intro b h s hl hc count waiting
  refine ⟨fun got hx => ⟨fun _ hf => ?_, fun hlt hf => ?_, fun hlast hf k hk => ?_⟩, fun n hx => ?_⟩
  · have hgone : s.port.holdGone = holdLevel s.port.queue.length waiting s.port.hold := by unfold Port.holdGone; rw [hx]
    rw [exec_segmentByte hl, receiveByte_body hx hc, bodyByte_full hx hf, discardSegment_eq, hgone, huntByte_first rfl rfl]
    rfl
  · rw [exec_segmentByte hl, receiveByte_body hx hc, bodyByte_stored hx hf hlt]; rfl
  · rw [exec_segmentByte hl, receiveByte_body hx hc, bodyByte_last hx hf hlast b hk]; rfl
  · rw [exec_segmentByte hl, receiveByte_skip hx hc, skipByte]
    split_ifs <;> rfl

end Sys2Proof.Machine
end

section
/-! PROOFS. Reset, Restart and Set Open: what each leaves in every block (R16 to R19, R173 to R175). -/

namespace Sys2Proof.Machine

open Sys2Proof

/-! ### A held part (R174) -/

/-- A command that a held part takes no notice of. -/
theorem unlessHeld_low {s : State} (h : s.resetLow = true) (f : State → State) : unlessHeld f s = s := if_pos h

/-- Settles O3. -/
theorem heldPartIgnoresEvents : Obligations.HeldPartIgnoresEvents := by
  intro s h
  have held (f : State → State) : (.next (unlessHeld f s) : Host.Outcome State Fault Refusal) = .next s := by
    rw [unlessHeld_low h]
  refine ⟨fun b => held _, fun c g hg => (exec_segmentOf hg s).trans (held _), held _, held _, held _, held _, held _,
    held _, held _, held _, fun l => ?_, ?_⟩
  · exact congrArg _ (if_pos h)
  · exact congrArg _ (if_pos h)

/-- Settles O11. -/
theorem contentWaitsBehindBusyDecoder : Obligations.ContentWaitsBehindBusyDecoder :=
  fun _ _ _ hg hx ha hb => exec_content_waits hg hx ha hb

/-! ### The reset state -/

theorem reset_slot (k : ObjId) : State.reset.store.slot k = .empty := by simp [State.reset, Store.reset, Store.slot]

theorem reset_page (p : PageId) : State.reset.engine.page p = .blank := by
  simp [State.reset, Engine.reset, Engine.page]

theorem reset_entry (p : PaletteId) (ix : Byte) : State.reset.palette.entry p ix = Entry.reset := by
  simp [State.reset, PaletteUnit.reset, PaletteUnit.entry]

theorem reset_free : State.reset.store.free = List.finRange 2048 := by simp only [State.reset, Store.reset]

/-- Settles O4. -/
theorem resetState : Obligations.ResetState := by
  refine ⟨⟨rfl, rfl, reset_slot, reset_free, reset_entry, rfl, rfl, rfl, rfl, rfl, reset_page, fun c => ?_, ?_⟩,
    rfl, rfl, rfl, rfl, rfl, fun c => ?_, ?_⟩
  · cases c <;> rfl
  · simp [State.reset, Engine.reset, Mixer.reset]
  · cases c <;> rfl
  · simp [State.reset, Sequencer.reset, SlideConfig.reset, ReportUnit.reset, resetMask]

theorem reset_portInv : PortInv State.reset :=
  .of_parts rfl ⟨Nat.zero_le 32, Nat.zero_le 16384, trivial⟩ rfl ⟨(nomatch ·), fun _ => rfl⟩

/-- Right after reset every granule is on the free list (R20). -/
theorem reset_storeInv : StoreInv State.reset where
  law := by
    have h (k : ObjId) : State.reset.store.slots[k] = .empty := reset_slot k
    have hj : tableJoin (fun _ x => x.currentChain ++ x.incomingChain) State.reset.store.slots = [] :=
      List.flatMap_eq_nil_iff.mpr fun k _ => by rw [h]; rfl
    rw [Store.granules, hj, reset_free, List.append_nil]
  sizedCurrent k v h := by rw [reset_slot] at h; cases h
  sizedIncoming k v h := by rw [reset_slot] at h; cases h
  built k v h := by rw [reset_slot] at h; cases h
  held l h := nomatch h

theorem reset_colourInv : ColourInv State.reset where
  live p ix := by rw [reset_entry]; unfold Entry.Legal LegalColour; decide
  touched x hx := nomatch hx
  rising := List.Pairwise.nil
  fill := by unfold LegalPixel LegalColour; decide
  pendingFill o h := nomatch h

theorem reset_engineInv : EngineInv State.reset where
  schedule := Nat.zero_le _
  contexts c := by cases c <;> trivial
  exclusive c d p h := by cases c <;> cases h
  inUseDefined p h := nomatch h

theorem reset_navInv : NavInv State.reset where
  keys := Nat.zero_le _
  menu := ⟨Nat.zero_le _, fun _ h => nomatch h⟩
  popup := ⟨Nat.zero_le _, fun _ h => nomatch h⟩
  tables c := by cases c <;> rfl
  menuPage := rfl
  popupPage := rfl
  slidePage := rfl
  flagsCopy := rfl

theorem reset_seqInv : SeqInv State.reset where
  list := Nat.zero_le _
  entries e h := nomatch h
  counting n h := nomatch h
  targetRuns t h := nomatch h
  dwellRuns h := absurd rfl h
  targetEntry t h := nomatch h
  shownEntry i h := nomatch h
  placedEntry x h := nomatch h
  drain := by decide

theorem reset_reportInv : ReportInv State.reset where
  bound := by decide
  attn := by decide
  position := by decide
  low h := nomatch h

/-- Settles O5, block by block. -/
theorem resetKeepsTheLaws : Obligations.ResetKeepsTheLaws :=
  ⟨reset_portInv, reset_storeInv, reset_mem_wf, reset_colourInv, reset_engineInv, reset_navInv, reset_seqInv,
    reset_reportInv⟩

/-! ### Restart and the pin -/

/-- Settles O59: Restart as it arrives, the pin low, and the pin high again. -/
theorem restartAndResetPin : Obligations.RestartAndResetPin := by
  refine ⟨fun s ha => ?_, fun s => ⟨assertReset s, rfl, rfl, rfl, rfl, rfl, rfl, rfl, rfl, rfl, rfl, rfl, rfl, ?_, rfl⟩⟩
  · rw [exec_express (segmentOf_restart []) rfl ha]
    show Host.Outcome.next (restartPart (visited s 0)) = _
    rw [restartPart, resetBlocks, visited, State.setPort, State.setPort, State.setReport, ha.1]
    rfl
  · intro hl
    show Host.Outcome.next (releaseReset s) = _
    rw [releaseReset, hl]; rfl

/-! ### Set Open (R16, R70) -/

/-- The popup page field of a Set Open (R70). -/
theorem readPageOrNone_ofNat (p : PageId) : readPageOrNone (BitVec.ofNat 8 p.val) = some (some p) := by
  have hp : p.val < 32 := p.isLt
  have hn : (BitVec.ofNat 8 p.val).toNat = p.val := by rw [BitVec.toNat_ofNat]; omega
  have hne : BitVec.ofNat 8 p.val ≠ 0xFF := fun h => by rw [h] at hn; simp at hn; omega
  rw [readPageOrNone, if_neg hne, hn]
  simp [finOf?]

theorem readPageOrNone_none : readPageOrNone 0xFF = some none := rfl

/-- The store after a Set Open, chain by chain (R35). -/
theorem setOpen_free (st : Store) :
    st.setOpen.free = st.free ++ (List.finRange 512).flatMap fun k => match st.slot k with
      | .loading i | .pending i | .updating _ i | .swapping _ i => i.chain
      | .empty | .ready _ | .dropping _ => [] := by
  have h (x : Slot) : x.incomingChain = match x with
      | .loading i | .pending i | .updating _ i | .swapping _ i => i.chain
      | .empty | .ready _ | .dropping _ => [] := by cases x <;> rfl
  simp only [Store.setOpen, tableJoin_eq, h]
  rfl

/-- Settles O31: the fields that a valid Set Open writes and what it clears, then the blocks that stand. -/
theorem setOpenClears : Obligations.SetOpenClears := by
  intro hi lo popup s ht popupByte
  have hr : readSetOpen [hi, lo, popupByte] = some (hi ++ lo, popup) := by
    cases popup with
    | none => rfl
    | some p => simp only [readSetOpen, popupByte]; simp [at8, at16, readPageOrNone_ofNat]
  have he : exec (.setOpen [hi, lo, popupByte]) s = .next (setOpen (hi ++ lo) popup (visited s 3)) := by
    rw [exec_content_free (segmentOf_setOpen _) rfl (by simp) ht]
    simp only [takeSegment, takeSetOpen, hr]
    rfl
  refine ⟨_, he, rfl, rfl, rfl, rfl, rfl, fun k => ?_, setOpen_free s.store, rfl⟩
  rw [show (setOpen (hi ++ lo) popup (visited s 3)).store = s.store.setOpen from rfl, Store.setOpen_slot]
  cases s.store.slot k <;> rfl

end Sys2Proof.Machine
end

section
/-! PROOFS. A segment on the wire: its stuffed bytes, strobed one by one, do what the whole segment does (1.1 to 1.4,
log entry 3). -/

namespace Sys2Proof.Machine

open Sys2Proof

/-! ### The reset pin through the port -/

theorem drainContent_resetLow (n : Nat) (s : State) : (drainContent n s).resetLow = s.resetLow := by
  induction n generalizing s with
  | zero => rfl
  | succ n ih =>
    unfold drainContent
    split
    · rfl
    · split
      · rfl
      · split
        · dsimp only
          split
          · exact takeFragment_resetLow _ s
          · exact (ih _).trans (takeFragment_resetLow _ s)
        · exact (ih _).trans (takeSegment_resetLow _ _)

theorem routeSegment_resetLow (g : Segment) (s : State) : (routeSegment g s).resetLow = s.resetLow := by
  unfold routeSegment
  split
  · exact takeSegment_resetLow g _
  · exact drainContent_resetLow _ _

theorem huntByte_resetLow (b : Byte) (s : State) : (huntByte b s).resetLow = s.resetLow := by
  unfold huntByte openReception; split_ifs <;> rfl

theorem checkHeader_resetLow (h : Header) (n : Fin 3) (s : State) : (checkHeader h n s).resetLow = s.resetLow := by
  have hs (s : State) : (enterSkip h n s).resetLow = s.resetLow := by rw [enterSkip_eq]; rfl
  unfold checkHeader
  split
  · exact discardSegment_resetLow s
  · split
    · exact hs _
    · split_ifs
      · exact hs _
      · exact hs _
      · exact routeSegment_resetLow _ _
      · rfl

theorem bodyByte_resetLow (h : Header) (got : List Byte) (b : Byte) (s : State) :
    (bodyByte h got b s).resetLow = s.resetLow := by
  unfold bodyByte
  split
  · exact (huntByte_resetLow _ _).trans (discardSegment_resetLow s)
  · dsimp only
    split
    · rfl
    · split
      · exact routeSegment_resetLow _ _
      · exact discardSegment_resetLow _

/-- No byte moves the reset pin. -/
theorem receiveByte_resetLow (b : Byte) (s : State) : (receiveByte b s).resetLow = s.resetLow := by
  have hd : (afterDoubleFF b s).resetLow = s.resetLow := by
    rw [afterDoubleFF, framingViolation_eq, markerInside_eq, discardSegment_eq, openReception_eq rfl]
    split_ifs <;> rfl
  unfold receiveByte
  split
  · exact huntByte_resetLow b s
  · split
    · exact hd
    · unfold headerByte; dsimp only; split; exacts [rfl, checkHeader_resetLow _ _ s]
  · split; exacts [hd, bodyByte_resetLow _ _ b s]
  · split
    · exact hd
    · unfold skipByte; split <;> rfl

/-! ### Bytes one after another -/

/-- The state after bytes have been received one after another. -/
def feed (l : List Byte) (s : State) : State := l.foldl (fun s b => receiveByte b s) s

@[simp] theorem feed_nil (s : State) : feed [] s = s := rfl

@[simp] theorem feed_cons (b : Byte) (l : List Byte) (s : State) : feed (b :: l) s = feed l (receiveByte b s) := rfl

theorem feed_append (l m : List Byte) (s : State) : feed (l ++ m) s = feed m (feed l s) := List.foldl_append

theorem feed_resetLow (l : List Byte) (s : State) : (feed l s).resetLow = s.resetLow := by
  induction l generalizing s with
  | nil => rfl
  | cons b l ih => rw [feed_cons, ih, receiveByte_resetLow]

/-- Strobes into a part that is not held. -/
theorem strobe_eq_feed {s : State} (hl : s.resetLow = false) (l : List Byte) : strobe l s = .next (feed l s) := by
  induction l generalizing s with
  | nil => rfl
  | cons b l ih =>
    rw [strobe, exec_segmentByte hl]
    exact ih ((receiveByte_resetLow b s).trans hl)

/-! ### Stuffing (1.1) -/

/-- The FF count once a byte and the stuffing it asks for have gone by, from a count of 0 or 1. -/
def stuffedCount (n : Fin 3) (b : Byte) : Fin 3 := if b = 0xFF then (if n = 1 then 0 else 1) else 0

theorem trailingCount_eq (g : Segment) :
    g.trailingCount = (bytes16 g.body.length ++ g.body).foldl stuffedCount 0 := rfl

theorem stuffedCount_ne_two (n : Fin 3) (b : Byte) : stuffedCount n b ≠ 2 := by
  unfold stuffedCount; split_ifs <;> decide

/-- One byte of the stuffed text, with the 00 byte that a second FF byte is followed by. -/
theorem stuff_cons (n : Fin 3) (b : Byte) (l : List Byte) :
    stuff n.val (b :: l) =
      b :: ((if b = 0xFF ∧ n = 1 then [0x00] else []) ++ stuff (stuffedCount n b).val l) := by
  have h1 : n.val = 1 ↔ n = 1 := ⟨fun h => Fin.ext h, fun h => h ▸ rfl⟩
  unfold stuffedCount
  by_cases hb : b = 0xFF <;> by_cases hn : n = 1 <;>
    simp only [stuff, hb, hn, h1, if_true, if_false, and_true, and_false, List.cons_append, List.nil_append] <;> rfl

/-- Another FF count. -/
def State.setCount (s : State) (n : Fin 3) : State := s.setPort { s.port with ffCount := n }

@[simp] theorem setCount_port (s : State) (n : Fin 3) : (s.setCount n).port = { s.port with ffCount := n } := rfl

@[simp] theorem setCount_setCount (s : State) (n m : Fin 3) : (s.setCount n).setCount m = s.setCount m := rfl

theorem setCount_self {s : State} {n : Fin 3} (h : s.port.ffCount = n) : s.setCount n = s := by subst h; rfl

/-- A 00 byte in HUNT, or after two FF bytes, only clears the FF count (R2, R3). -/
theorem receiveByte_zero {s : State} (h : s.port.rx = .hunt ∨ s.port.ffCount = 2) : receiveByte 0x00 s = s.setCount 0 := by
  by_cases hx : s.port.rx = .hunt
  · rw [receiveByte_hunt hx, huntByte, if_neg (by decide), if_neg fun h => absurd h.1 (by decide), setRx_hunt hx]; rfl
  · rw [receiveByte_double hx (h.resolve_left hx)]; rfl

/-- A byte that is counted as a segment byte, with its stuffing. -/
theorem feed_stuff_counted {n : Fin 3} (hn : n ≠ 2) {b : Byte} {s : State}
    (hc : (receiveByte b s).port.ffCount = countAfter n b) (l : List Byte) :
    feed (stuff n.val (b :: l)) s =
      feed (stuff (stuffedCount n b).val l) ((receiveByte b s).setCount (stuffedCount n b)) := by
  rw [stuff_cons, feed_cons, feed_append]
  congr 1
  by_cases h : b = 0xFF ∧ n = 1
  · obtain ⟨rfl, rfl⟩ := h
    exact receiveByte_zero (.inr hc)
  · rw [if_neg h, feed_nil, setCount_self]
    rw [hc, countAfter_eq, stuffedCount]
    grind

/-- A byte that ends the reception and leaves FF count 0, with its stuffing. -/
theorem feed_stuff_ended {n : Fin 3} {b : Byte} {s : State} (hx : (receiveByte b s).port.rx = .hunt)
    (hc : (receiveByte b s).port.ffCount = 0) (l : List Byte) :
    feed (stuff n.val (b :: l)) s = feed (stuff (stuffedCount n b).val l) (receiveByte b s) := by
  rw [stuff_cons, feed_cons, feed_append]
  congr 1
  split
  · rw [feed_cons, feed_nil, receiveByte_zero (.inl hx), setCount_self hc]
  · rfl

/-! ### Stuffed bytes in HUNT -/

/-- A stuffed byte in HUNT is counted and no marker is found. -/
theorem huntByte_stuffed {s : State} (hx : s.port.rx = .hunt) (hc : s.port.ffCount ≠ 2) (b : Byte) :
    huntByte b s = s.setCount (countAfter s.port.ffCount b) := by
  rw [huntByte, if_neg (show ¬(b = 0x5A ∧ s.port.ffCount = 2) from fun h => hc h.2), setRx_hunt hx, setRx_hunt hx,
    countAfter]
  split_ifs <;> rfl

/-- Stuffed bytes go by in HUNT and leave their count there (R2). -/
theorem feed_stuff_hunt (l : List Byte) {n : Fin 3} (hn : n ≠ 2) {s : State} (hx : s.port.rx = .hunt)
    (hc : s.port.ffCount = n) : feed (stuff n.val l) s = s.setCount (l.foldl stuffedCount n) := by
  induction l generalizing n s with
  | nil => exact (setCount_self hc).symm
  | cons b l ih =>
    have hb : receiveByte b s = s.setCount (countAfter n b) := by
      rw [receiveByte_hunt hx, huntByte_stuffed hx (hc ▸ hn), hc]
    rw [feed_stuff_counted hn (by rw [hb]; rfl), hb, setCount_setCount, ih (stuffedCount_ne_two n b) (s := s.setCount (stuffedCount n b)) hx rfl]
    rfl

/-- The same where a discard has cleared the count in the middle of the text. -/
theorem feed_stuff_hunt_cleared {l : List Byte} (h : l ≠ []) {n : Fin 3} (hn : n ≠ 2) {s : State}
    (hx : s.port.rx = .hunt) (hc : s.port.ffCount = 0) :
    feed (stuff n.val l) s = s.setCount (l.foldl stuffedCount n) := by
  obtain ⟨b, l, rfl⟩ := List.exists_cons_of_ne_nil h
  have hb : receiveByte b s = s.setCount (countAfter 0 b) := by
    rw [receiveByte_hunt hx, huntByte_stuffed hx (hc ▸ by decide), hc]
  have hs : feed (stuff n.val (b :: l)) s =
      feed (stuff (stuffedCount n b).val l) (s.setCount (stuffedCount n b)) := by
    rw [stuff_cons, feed_cons, feed_append, hb]
    congr 1
    by_cases h : b = 0xFF ∧ n = 1
    · obtain ⟨rfl, rfl⟩ := h
      rw [if_pos ⟨rfl, rfl⟩, feed_cons, receiveByte_zero (s := s.setCount (countAfter 0 0xFF)) (.inl hx)]
      rfl
    · rw [if_neg h, feed_nil, countAfter_eq, stuffedCount]
      congr 1
      grind
  rw [hs, feed_stuff_hunt l (stuffedCount_ne_two n b) (s := s.setCount (stuffedCount n b)) hx rfl]
  rfl

/-! ### A segment in reception -/

/-- The state with its receiver in reception: the receiver's state, its FF count and HOLD. -/
def State.receiving (s : State) (rx : Receiver) (n : Fin 3) (hold : Bool) : State :=
  s.setPort { s.port with rx := rx, ffCount := n, hold := hold }

/-- One of the first three header bytes (R3). -/
theorem feed_stuff_header {got : List Byte} (hg : got.length < 3) {n : Fin 3} (hn : n ≠ 2) (b : Byte) (l : List Byte)
    (s : State) (hold : Bool) :
    feed (stuff n.val (b :: l)) (s.receiving (.header got) n hold) =
      feed (stuff (stuffedCount n b).val l) (s.receiving (.header (got ++ [b])) (stuffedCount n b) hold) := by
  have hb : receiveByte b (s.receiving (.header got) n hold) =
      s.receiving (.header (got ++ [b])) (countAfter n b) hold := by
    rw [receiveByte_header rfl hn, headerByte, if_pos (by simpa using by omega)]; rfl
  rw [feed_stuff_counted hn (by rw [hb]; rfl), hb]
  rfl

/-- The port of a refusal for want of room: the reception was given up with the byte total at its limit (R10, R11). -/
def Port.full (p : Port) (n : Fin 3) : Port :=
  { p with
    ffCount := n
    hold := holdLevel p.queue.length (waitingBytes p.queue) (holdLevel (p.queue.length + 1) 16384 p.hold) }

/-- The receiver as a segment leaves it once it is routed: in HUNT with FF count 0. -/
def Port.Rests (p : Port) : Prop := p.rx = .hunt ∧ p.ffCount = 0

theorem takeSegment_rests {s : State} (h : s.port.Rests) (g : Segment) : (takeSegment g s).port.Rests := by
  by_cases hx : g.kind.express = true
  · obtain hf | hr := takeSegment_express hx s
    · rw [port_of_front hf]; exact h
    · rw [hr]; exact ⟨rfl, rfl⟩
  · rw [takeSegment_port (Bool.not_eq_true _ ▸ hx)]; exact h

theorem drainContent_rests (n : Nat) {s : State} (h : s.port.Rests) : (drainContent n s).port.Rests := by
  induction n generalizing s with
  | zero => exact h
  | succ n ih =>
    unfold drainContent
    split
    · exact h
    · split
      · exact h
      · next g _ _ =>
        split
        · have hf : (takeFragment g.body s).port.Rests := by rw [takeFragment_port]; exact h
          dsimp only
          split
          · exact hf
          · exact ih (s := leaveHead (takeFragment g.body s)) hf
        · exact ih (takeSegment_rests (s := leaveHead s) h g)

theorem routeSegment_rests {s : State} (h : s.port.Rests) (g : Segment) : (routeSegment g s).port.Rests := by
  unfold routeSegment
  split
  · exact takeSegment_rests (s := s.setPort s.port.testHold) h g
  · exact drainContent_rests _ (s := joinQueue g s) h

/-- A body byte at the byte limit and what follows it: OVERRUN, and the rest goes by in HUNT (R10). -/
theorem feed_stuff_full {s : State} (hx : s.port.rx = .hunt) (h : Header) {got : List Byte} (b : Byte) (l : List Byte)
    (hw : waitingBytes s.port.queue + got.length = 16384) {n : Fin 3} (hn : n ≠ 2) :
    feed (stuff n.val (b :: l))
        (s.receiving (.body h got) n (holdLevel (s.port.queue.length + 1) 16384 s.port.hold)) =
      (s.setPort (s.port.full ((b :: l).foldl stuffedCount n))).raise (.overrun h.kind (4 + got.length) .bytes) := by
  have hb : receiveByte b (s.receiving (.body h got) n (holdLevel (s.port.queue.length + 1) 16384 s.port.hold)) =
      receiveByte b ((s.setPort (s.port.full 0)).raise (.overrun h.kind (4 + got.length) .bytes)) := by
    rw [receiveByte_hunt (s := (s.setPort (s.port.full 0)).raise _) hx, receiveByte_body rfl hn,
      bodyByte_full (s := s.receiving (.body h got) n _) rfl hw.ge, discardSegment_eq, Port.full, hx]
    rfl
  rw [stuff_cons, feed_cons, hb, ← feed_cons, ← stuff_cons,
    feed_stuff_hunt_cleared (List.cons_ne_nil b l) hn (s := (s.setPort (s.port.full 0)).raise _) hx rfl]
  rfl

/-- The rest of a body: it is stored and routed, or refused where the bytes have no room (R8, R10). -/
theorem feed_stuff_body {s : State} (hx : s.port.rx = .hunt)
    (ht : holdLevel s.port.queue.length (waitingBytes s.port.queue) s.port.hold = s.port.hold) {h : Header} {k : Kind}
    (hk : kindOf h.kind = some k) {rest : List Byte} (hr : rest ≠ []) (got : List Byte)
    (hlen : h.length = (got ++ rest).length) (hw : waitingBytes s.port.queue + got.length ≤ 16384) {n : Fin 3}
    (hn : n ≠ 2) :
    feed (stuff n.val rest) (s.receiving (.body h got) n
        (holdLevel (s.port.queue.length + 1) (waitingBytes s.port.queue + got.length) s.port.hold)) =
      if 16384 < waitingBytes s.port.queue + h.length then
        (s.setPort (s.port.full (rest.foldl stuffedCount n))).raise
          (.overrun h.kind (4 + (16384 - waitingBytes s.port.queue)) .bytes)
      else routeSegment ⟨k, got ++ rest⟩ (s.setPort { s.port with
        ffCount := 0
        hold := holdLevel (s.port.queue.length + 1) (waitingBytes s.port.queue + h.length) s.port.hold }) := by
  induction rest generalizing got n with
  | nil => exact absurd rfl hr
  | cons b rest ih =>
    rw [List.length_append, List.length_cons] at hlen
    obtain hfull | hroom := hw.eq_or_lt
    · rw [if_pos (by omega), hfull, feed_stuff_full hx h b rest hfull hn,
        show got.length = 16384 - waitingBytes s.port.queue by omega]
    have hhold : holdLevel (s.port.queue.length + 1) (waitingBytes s.port.queue + got.length + 1)
        (holdLevel (s.port.queue.length + 1) (waitingBytes s.port.queue + got.length) s.port.hold) =
          holdLevel (s.port.queue.length + 1) (waitingBytes s.port.queue + got.length + 1) s.port.hold :=
      holdLevel_rising ht (Nat.le_succ _) le_rfl (Nat.le_add_right _ _) (Nat.le_succ _)
    cases rest with
    | nil =>
      rw [List.length_nil] at hlen
      have hb : receiveByte b (s.receiving (.body h got) n
          (holdLevel (s.port.queue.length + 1) (waitingBytes s.port.queue + got.length) s.port.hold)) =
            routeSegment ⟨k, got ++ [b]⟩ (s.setPort { s.port with
              ffCount := 0
              hold := holdLevel (s.port.queue.length + 1) (waitingBytes s.port.queue + h.length) s.port.hold }) := by
        rw [receiveByte_body rfl hn, bodyByte_last (s := s.receiving (.body h got) n _) rfl hroom (by omega) b hk, hlen, ← Nat.add_assoc, ← hhold, ← hx]
        rfl
      obtain ⟨h1, h2⟩ := routeSegment_rests (s := s.setPort { s.port with
        ffCount := 0
        hold := holdLevel (s.port.queue.length + 1) (waitingBytes s.port.queue + h.length) s.port.hold })
        ⟨hx, rfl⟩ ⟨k, got ++ [b]⟩
      rw [if_neg (by omega), feed_stuff_ended (by rw [hb, h1]) (by rw [hb, h2]), hb]
      rfl
    | cons c rest =>
      have hb : receiveByte b (s.receiving (.body h got) n
          (holdLevel (s.port.queue.length + 1) (waitingBytes s.port.queue + got.length) s.port.hold)) =
            s.receiving (.body h (got ++ [b])) (countAfter n b)
              (holdLevel (s.port.queue.length + 1) (waitingBytes s.port.queue + got.length + 1) s.port.hold) := by
        rw [receiveByte_body rfl hn, bodyByte_stored (s := s.receiving (.body h got) n _) rfl hroom (by simp [hlen]) b, ← hhold]
        rfl
      have hi := ih (List.cons_ne_nil c rest) (got ++ [b]) (by simp [hlen]) (by rw [List.length_append]; exact hroom)
        (stuffedCount_ne_two n b)
      simp only [List.length_append, List.length_singleton, ← Nat.add_assoc, List.append_assoc,
        List.singleton_append] at hi
      rw [feed_stuff_counted hn (by rw [hb]; rfl), hb]
      exact hi

/-! ### A whole segment -/

theorem Kind.code_ne_ff (k : Kind) : k.code ≠ 0xFF := by cases k <;> decide

theorem stuffedCount_of_ne {b : Byte} (h : b ≠ 0xFF) (n : Fin 3) : stuffedCount n b = 0 := if_neg h

/-- Two fields side by side, as a number. -/
theorem toNat_append_add {v w : Nat} (x : BitVec v) (y : BitVec w) : (x ++ y).toNat = x.toNat * 2 ^ w + y.toNat := by
  rw [BitVec.toNat_append, ← Nat.shiftLeft_add_eq_or_of_lt y.isLt, Nat.shiftLeft_eq]

/-- The two length bytes give the length back (11.3). -/
theorem bytes16_toNat {n : Nat} (h : n < 65536) : (byteOf (n / 256) ++ byteOf n).toNat = n := by
  rw [toNat_append_add, byteOf, byteOf, BitVec.toNat_ofNat, BitVec.toNat_ofNat]
  omega

/-- A marker sent to a receiver in HUNT (R2, R10). -/
theorem feed_marker {s : State} (hx : s.port.rx = .hunt) :
    feed [0xFF, 0xFF, 0x5A] s =
      if 32 ≤ s.port.queue.length then (s.setCount 0).raise (.overrun 0xFF 0 .segments)
      else s.receiving (.header []) 0 (holdLevel (s.port.queue.length + 1) (waitingBytes s.port.queue) s.port.hold) := by
  have hff (s : State) (hx : s.port.rx = .hunt) : receiveByte 0xFF s = s.setCount (raiseCount s.port.ffCount) := by
    rw [receiveByte_hunt hx, huntByte, if_pos rfl, setRx_hunt hx]; rfl
  have h2 (n : Fin 3) : raiseCount (raiseCount n) = 2 := by unfold raiseCount; split_ifs <;> simp_all
  have hm : feed [0xFF, 0xFF, 0x5A] s = openReception (s.setCount 2) := by
    rw [feed_cons, hff s hx, feed_cons, hff (s.setCount (raiseCount s.port.ffCount)) hx, feed_cons, feed_nil]
    rw [setCount_port, h2, setCount_setCount, receiveByte_hunt (s := s.setCount 2) hx, huntByte, if_neg (by decide),
      if_pos ⟨rfl, rfl⟩]
  rw [hm, openReception_eq (s := s.setCount 2) hx]
  rfl

/-- An accepted header (R6, R8). -/
theorem checkHeader_accepted {h : Header} {k : Kind} (hk : kindOf h.kind = some k)
    (hs : h.source = 0x01 ∨ (h.source = 0x00 ∧ k.express = false)) (n : Fin 3) (s : State) :
    checkHeader h n s =
      if 4000 < h.length then (discardSegment s).raise (.oversize h.kind h.length)
      else if h.length = 0 then completeSegment k [] s else s.setRx (.body h []) n := by
  have h1 : ¬(h.source ≠ 0x00 ∧ h.source ≠ 0x01) := by tauto
  have h2 : ¬(k.express = true ∧ h.source = 0x00) := by
    rintro ⟨hx, h0⟩
    obtain h | ⟨_, h⟩ := hs
    · rw [h0] at h; exact absurd h (by decide)
    · rw [hx] at h; cases h
  simp only [checkHeader, hk, if_neg h1, if_neg h2]

/-- What the arrival of a whole segment does to a hunting receiver, by the waiting segments and bytes. -/
theorem present_hunt {s : State} (hx : s.port.rx = .hunt) (hw : waitingBytes s.port.queue ≤ 16384) (g : Segment) :
    present g s =
      if 32 ≤ s.port.queue.length then (s.setCount g.trailingCount).raise (.overrun 0xFF 0 .segments)
      else if 4000 < g.body.length then
        (s.setPort { s.port with
          ffCount := g.trailingCount
          hold := holdLevel s.port.queue.length (waitingBytes s.port.queue)
            (holdLevel (s.port.queue.length + 1) (waitingBytes s.port.queue) s.port.hold) }).raise
          (.oversize g.kind.code g.body.length)
      else if 16384 < waitingBytes s.port.queue + g.body.length then
        (s.setPort (s.port.full g.trailingCount)).raise
          (.overrun g.kind.code (4 + (16384 - waitingBytes s.port.queue)) .bytes)
      else routeSegment g (s.setPort { s.port with
        ffCount := 0
        hold := holdLevel (s.port.queue.length + 1) (waitingBytes s.port.queue + g.body.length) s.port.hold }) := by
  have hq : s.port.segTotal = s.port.queue.length := by rw [Port.segTotal_eq, hx]; rfl
  have hb : s.port.byteTotal = waitingBytes s.port.queue := by rw [Port.byteTotal_eq, hx]; rfl
  have hfull : waitingBytes s.port.queue + (16384 - waitingBytes s.port.queue) = 16384 := by omega
  have hv (n : Nat) (m : Fin 3) : (s.port.visit n).hunted m = { s.port with
      ffCount := m
      hold := holdLevel s.port.queue.length (waitingBytes s.port.queue)
        (holdLevel (s.port.queue.length + 1) (waitingBytes s.port.queue + n) s.port.hold) } := by
    rw [Port.visit_eq, hq, hb, Port.hunted_hunt hx, Port.hunted_hunt (p := { s.port with ffCount := 0, hold := _ }) hx]
  rw [present, arrivalRefusal, hv, hv, Port.rise, Port.hunted_hunt hx, Port.hunted_hunt hx, hq, hb, Port.full]
  simp only [Config.maxQueueBytes, Config.maxSegments, Config.maxBody, hfull, Nat.add_zero]
  split_ifs <;> rfl

/-- The fourth header byte of an accepted segment, and the body that follows it (R6, R8, R10). -/
theorem feed_stuff_accepted {s : State} (hx : s.port.rx = .hunt) (hw : waitingBytes s.port.queue ≤ 16384)
    (ht : holdLevel s.port.queue.length (waitingBytes s.port.queue) s.port.hold = s.port.hold) {k : Kind}
    {source : Byte} (hs : source = 0x01 ∨ (source = 0x00 ∧ k.express = false)) {l1 l0 : Byte} {body : List Byte}
    (hlen : (l1 ++ l0).toNat = body.length) {n : Fin 3} (hn : n ≠ 2) (hroom : ¬32 ≤ s.port.queue.length)
    (htrail : (l0 :: body).foldl stuffedCount n = (Segment.mk k body).trailingCount) :
    feed (stuff n.val (l0 :: body)) (s.receiving (.header [k.code, source, l1]) n
      (holdLevel (s.port.queue.length + 1) (waitingBytes s.port.queue) s.port.hold)) = present ⟨k, body⟩ s := by
  have hb : receiveByte l0 (s.receiving (.header [k.code, source, l1]) n
      (holdLevel (s.port.queue.length + 1) (waitingBytes s.port.queue) s.port.hold)) =
        checkHeader { kind := k.code, source := source, length := body.length } (countAfter n l0)
          (s.receiving (.header [k.code, source, l1]) n
            (holdLevel (s.port.queue.length + 1) (waitingBytes s.port.queue) s.port.hold)) := by
    rw [receiveByte_header rfl hn, ← hlen]; rfl
  rw [checkHeader_accepted (kindOf_code k) hs] at hb
  rw [present_hunt hx hw, if_neg hroom, ← htrail, List.foldl_cons]
  dsimp only at hb ⊢
  by_cases hlong : 4000 < body.length
  · rw [if_pos hlong, discardSegment_eq] at hb
    rw [if_pos hlong, feed_stuff_ended (by rw [hb]; rfl) (by rw [hb]; rfl), hb,
      feed_stuff_hunt_cleared (by rintro rfl; cases hlong) (stuffedCount_ne_two n l0) rfl rfl, ← hx]
    rfl
  rw [if_neg hlong] at hb ⊢
  by_cases hnil : body = []
  · subst hnil
    have hc : completeSegment k [] (s.receiving (.header [k.code, source, l1]) n
        (holdLevel (s.port.queue.length + 1) (waitingBytes s.port.queue) s.port.hold)) =
          routeSegment ⟨k, []⟩ (s.setPort { s.port with
            ffCount := 0
            hold := holdLevel (s.port.queue.length + 1) (waitingBytes s.port.queue) s.port.hold }) := by
      rw [completeSegment, ← hx]; rfl
    rw [List.length_nil, if_pos rfl, hc] at hb
    obtain ⟨h1, h2⟩ := routeSegment_rests (s := s.setPort { s.port with
      ffCount := 0
      hold := holdLevel (s.port.queue.length + 1) (waitingBytes s.port.queue) s.port.hold }) ⟨hx, rfl⟩ ⟨k, []⟩
    rw [feed_stuff_ended (by rw [hb, h1]) (by rw [hb, h2]), hb, List.length_nil, Nat.add_zero, if_neg (by omega)]
    rfl
  · rw [if_neg (by simpa using hnil)] at hb
    rw [feed_stuff_counted hn (by rw [hb]; rfl), hb]
    exact feed_stuff_body hx ht (h := { kind := k.code, source := source, length := body.length }) (kindOf_code k) hnil []
      rfl hw (stuffedCount_ne_two n l0)

/-- The bytes of a segment on the wire, received one by one, do what the whole segment does (log entry 3). -/
theorem feed_wireBytes {s : State} (hx : s.port.rx = .hunt) (hb : s.port.byteTotal ≤ 16384)
    (ht : holdLevel s.port.segTotal s.port.byteTotal s.port.hold = s.port.hold) {g : Segment} {source : Byte}
    (hs : source = 0x01 ∨ (source = 0x00 ∧ g.kind.express = false)) (hlen : g.body.length < 65536) :
    feed (wireBytes source g) s = present g s := by
  obtain ⟨k, body⟩ := g
  rw [Port.segTotal_eq, Port.byteTotal_eq, hx, Receiver.places_hunt, Receiver.stored_hunt, Nat.add_zero, Nat.add_zero] at ht
  rw [Port.byteTotal_eq, hx, Receiver.stored_hunt, Nat.add_zero] at hb
  have hkc : stuffedCount 0 k.code = 0 := stuffedCount_of_ne k.code_ne_ff 0
  have hsc : stuffedCount 0 source = 0 :=
    stuffedCount_of_ne (by rintro rfl; obtain h | ⟨h, _⟩ := hs <;> exact absurd h (by decide)) 0
  have hwire : wireBytes source ⟨k, body⟩ = [0xFF, 0xFF, 0x5A] ++ stuff (0 : Fin 3).val
      (k.code :: source :: byteOf (body.length / 256) :: byteOf body.length :: body) := rfl
  rw [hwire, feed_append, feed_marker hx]
  by_cases hfull : 32 ≤ s.port.queue.length
  · rw [if_pos hfull, feed_stuff_hunt _ (n := 0) (by decide) (s := (s.setCount 0).raise _) hx rfl, present_hunt hx hb,
      if_pos hfull, List.foldl_cons, hkc, List.foldl_cons, hsc]
    rfl
  · rw [if_neg hfull, feed_stuff_header (by simp) (by decide), hkc, feed_stuff_header (by simp) (by decide), hsc,
      feed_stuff_header (by simp) (by decide)]
    exact feed_stuff_accepted hx hb ht hs (bytes16_toNat hlen) (stuffedCount_ne_two _ _) hfull rfl

/-! ### The bodies of the commands (11.3, 11.4) -/

/-- A byte of a wider field, counted from its low end. -/
theorem extractLsb'_eq_ofNat {w : Nat} (x : BitVec w) (i n : Nat) :
    x.extractLsb' i n = BitVec.ofNat n (x.toNat / 2 ^ i) := by
  rw [BitVec.extractLsb', Nat.shiftRight_eq_div_pow]

/-- The control byte of a Palette: bit 8 of the count, the mode, the palette (11.3). -/
theorem paletteControl_eq (n : BitVec 9) (mode : ApplyMode) (p : BitVec 4) :
    (n.extractLsb' 8 1 ++ mode.code ++ p : Byte) =
      BitVec.ofNat 8 (128 * (n.toNat / 256) + 16 * mode.code.toNat + p.toNat) := by
  have hn := n.isLt
  have hm := mode.code.isLt
  have hp := p.isLt
  apply BitVec.eq_of_toNat_eq
  rw [toNat_append_add, toNat_append_add, extractLsb'_eq_ofNat, BitVec.toNat_ofNat, BitVec.toNat_ofNat]
  omega

theorem paletteBody_eq (mode : ApplyMode) (p : BitVec 4) (n : BitVec 9) (time : FrameCount) (e : List Byte) :
    paletteBody mode p n time e =
      [BitVec.ofNat 8 (128 * (n.toNat / 256) + 16 * mode.code.toNat + p.toNat), BitVec.ofNat 8 n.toNat,
        BitVec.ofNat 8 (time.toNat / 2 ^ 24), BitVec.ofNat 8 (time.toNat / 2 ^ 16), BitVec.ofNat 8 (time.toNat / 2 ^ 8),
        BitVec.ofNat 8 time.toNat] ++ e := by
  rw [paletteBody, paletteControl_eq, bytes32]
  simp only [extractLsb'_eq_ofNat, pow_zero, Nat.div_one]

theorem fragmentBody_eq (pos : Position) (id : Half) (r : List Byte) :
    fragmentBody pos id r = BitVec.ofNat 8 (id.toNat / 256) :: BitVec.ofNat 8 id.toNat :: pos.code :: r := by
  simp only [fragmentBody, extractLsb'_eq_ofNat, Nat.reducePow, Nat.div_one]

/-- Settles O10: the bytes of any segment do what its arrival does, and the segments of the commands row by row. -/
theorem segmentOnTheWire : Obligations.SegmentOnTheWire := by
  refine ⟨fun c g source s hg hs hlen hl hx hb ht => ?_, fun b c kind hm => ?_, fun id r c position hm => ?_,
    fun p n time e c mode hm => ?_, fun r c operation hm => ?_⟩
  · rw [strobe_eq_feed hl, feed_wireBytes hx hb ht hs hlen, exec_segmentOf hg, unlessHeld, hl]; rfl
  all_goals simp only [List.mem_cons, List.not_mem_nil, or_false, Prod.mk.injEq] at hm
  · rcases hm with ⟨rfl, rfl⟩ | ⟨rfl, rfl⟩ | ⟨rfl, rfl⟩ | ⟨rfl, rfl⟩ | ⟨rfl, rfl⟩ | ⟨rfl, rfl⟩ | ⟨rfl, rfl⟩ | ⟨rfl, rfl⟩ |
      ⟨rfl, rfl⟩ | ⟨rfl, rfl⟩ | ⟨rfl, rfl⟩ | ⟨rfl, rfl⟩ | ⟨rfl, rfl⟩ | ⟨rfl, rfl⟩ | ⟨rfl, rfl⟩ <;> rfl
  · rcases hm with ⟨rfl, rfl⟩ | ⟨rfl, rfl⟩ | ⟨rfl, rfl⟩ | ⟨rfl, rfl⟩ <;>
      exact congrArg (fun b => some (0x11, b)) (fragmentBody_eq _ id r)
  · rcases hm with ⟨rfl, rfl⟩ | ⟨rfl, rfl⟩ | ⟨rfl, rfl⟩ | ⟨rfl, rfl⟩ <;>
      exact congrArg (fun b => some (0x13, b)) (paletteBody_eq _ p n time e)
  · rcases hm with ⟨rfl, rfl⟩ | ⟨rfl, rfl⟩ | ⟨rfl, rfl⟩ | ⟨rfl, rfl⟩ | ⟨rfl, rfl⟩ | ⟨rfl, rfl⟩ | ⟨rfl, rfl⟩ | ⟨rfl, rfl⟩ |
      ⟨rfl, rfl⟩ <;> rfl

end Sys2Proof.Machine
end

section
/-! PROOFS. A whole segment that arrives, whether or not a command spells it: how the router takes it (1.4). -/

namespace Sys2Proof.Machine

open Sys2Proof

/-- An express segment is taken at once (R13). -/
theorem present_express {g : Segment} {s : State} (hx : g.kind.express = true) (ha : Accepts s g.body.length) :
    present g s = takeSegment g (visited s g.body.length) := by
  rw [present_accepted ha, routeSegment, if_pos hx]; rfl

/-- A content segment joins the content order (R14). -/
theorem present_content {g : Segment} {s : State} (hx : g.kind.express = false) (ha : Accepts s g.body.length) :
    present g s = drainContent (s.port.queue.length + 1) (joined s g) := by
  rw [present_accepted ha, routeSegment, if_neg (by rw [hx]; decide), joinQueue_rise, State.setPort_port, Port.rise_queue]

/-- A content segment waits behind a busy decoder (R14). -/
theorem present_waits {g : Segment} {s : State} (hx : g.kind.express = false) (ha : Accepts s g.body.length)
    (hb : s.decoder.busy = true) : present g s = joined s g := by
  rw [present_content hx ha, drainContent, if_pos (show (joined s g).decoder.busy = true from hb)]

/-- The head of the queue and the taking of a segment do not touch each other. -/
theorem leaveHead_takeSegment {g : Segment} (hx : g.kind.express = false) (s : State) :
    leaveHead (takeSegment g s) = takeSegment g (leaveHead s) := by
  rw [leaveHead, leaveHead, takeSegment_setPort hx, takeSegment_port hx]

/-- A free decoder's router takes the head of the queue, which leaves unless it makes the decoder busy (R14). -/
theorem drainContent_cons {n : Nat} {s : State} {g : Segment} {rest : List Segment} (hb : s.decoder.busy = false)
    (hq : s.port.queue = g :: rest) (hx : g.kind.express = false) :
    drainContent (n + 1) s =
      if (takeSegment g s).decoder.busy then takeSegment g s else drainContent n (takeSegment g (leaveHead s)) := by
  rw [drainContent, if_neg (by rw [hb]; decide), hq]
  by_cases hk : g.kind = .objectData
  · have hf (s : State) : takeFragment g.body s = takeSegment g s := by rw [takeSegment, hk]
    simp only [if_pos hk, hf, leaveHead_takeSegment hx]
  · simp only [if_neg hk]
    rw [if_neg (by rw [takeSegment_free hx hk hb]; decide)]

theorem drainContent_empty (n : Nat) {s : State} (hq : s.port.queue = []) : drainContent n s = s := by
  cases n with
  | zero => rfl
  | succ n =>
    rw [drainContent, hq]
    exact ite_self s

/-- A content segment that arrives at a free decoder with nothing waiting (R14, R40). -/
theorem present_free {g : Segment} {s : State} (hx : g.kind.express = false) (ha : TakesContent s g.body.length) :
    present g s =
      if (takeSegment g s).decoder.busy then takeSegment g (joined s g) else takeSegment g (visited s g.body.length) := by
  obtain ⟨ha, hb, hq⟩ := ha
  have hj : joined s g = s.setPort (joined s g).port := rfl
  have hd : (takeSegment g (joined s g)).decoder = (takeSegment g s).decoder := by
    rw [hj, takeSegment_setPort hx, State.setPort_decoder]
  rw [present_content hx ha, hq, List.length_nil,
    drainContent_cons (s := joined s g) (rest := []) hb (by simp [joined, hq]) hx, hd, leaveHead_joined hq, drainContent]

end Sys2Proof.Machine
end

section
/-! PROOFS. FRAGMENT_COMPLETE: what no code byte changes, the fragment's own completion, and the content that waited
(R14, R29, R43, R50, R51). -/

namespace Sys2Proof.Machine

open Sys2Proof

/-! ### What no code byte changes -/

/-- The load's head and the chain it writes to. -/
def Canvas.head (c : Canvas) : ObjId × Byte × Nat × Nat × Depth × List Granule :=
  (c.load.id, c.load.version, c.load.width, c.load.height, c.load.depth, c.chain)

@[simp] theorem setFault_head (c : Canvas) : c.setFault.head = c.head := rfl
@[simp] theorem setCode_head (c : Canvas) (p : Option PendingCode) : (c.setCode p).head = c.head := rfl
@[simp] theorem setEnded_head (c : Canvas) : c.setEnded.head = c.head := rfl
@[simp] theorem poke_head (c : Canvas) (u v : Nat) (ix : Byte) : (c.poke u v ix).head = c.head := rfl
@[simp] theorem closeRow_head (c : Canvas) : c.closeRow.head = c.head := rfl

@[simp] theorem putPixel_head (ix : Byte) (c : Canvas) : (c.putPixel ix).head = c.head := by
  unfold Canvas.putPixel; split <;> rfl

@[simp] theorem putRun_head (ix : Byte) (n : Nat) (c : Canvas) : (Canvas.putRun ix n c).head = c.head := by
  induction n generalizing c with
  | zero => rfl
  | succ n ih => rw [Canvas.putRun, ih, putPixel_head]

@[simp] theorem endRun_head (c : Canvas) : c.endRun.head = c.head := by
  unfold Canvas.endRun; split <;> rfl

@[simp] theorem clearColumns_head (n u : Nat) (c : Canvas) : (Canvas.clearColumns n u c).head = c.head := by
  induction n generalizing u c with
  | zero => rfl
  | succ n ih => rw [Canvas.clearColumns, ih, poke_head]

@[simp] theorem fillRow_head (c : Canvas) : c.fillRow.head = c.head := by simp [Canvas.fillRow]

@[simp] theorem fillRows_head (n : Nat) (c : Canvas) : (Canvas.fillRows n c).head = c.head := by
  induction n generalizing c with
  | zero => rfl
  | succ n ih => rw [Canvas.fillRows, ih, fillRow_head]

@[simp] theorem fillObject_head (c : Canvas) : c.fillObject.head = c.head := by
  unfold Canvas.fillObject; dsimp only; split <;> simp

@[simp] theorem copyRows_head (n : Nat) (c : Canvas) : (Canvas.copyRows n c).head = c.head := by
  have h (c : Canvas) : c.copyRow.head = c.head := by unfold Canvas.copyRow; split; exacts [fillRow_head c, rfl]
  induction n generalizing c with
  | zero => rfl
  | succ n ih => rw [Canvas.copyRows, ih, h]

@[simp] theorem copyCode_head (n : Nat) (c : Canvas) : (Canvas.copyCode n c).head = c.head := by
  unfold Canvas.copyCode; dsimp only; split_ifs <;> simp

theorem load_of_head {c d : Canvas} (h : c.head = d.head) : c.load.id = d.load.id ∧ c.load.version = d.load.version :=
  ⟨congrArg Prod.fst h, congrArg (·.2.1) h⟩

/-- A code byte keeps the load's head and the chain. -/
theorem consume_head {b : Byte} {c c' : Canvas} (h : c.consume b = some c') : c'.head = c.head := by
  unfold Canvas.consume at h
  split at h
  · cases h; rfl
  · split at h
    · next p _ =>
      obtain rfl := Option.some.inj h
      cases p <;> simp only [Canvas.operandByte]
      case literal => split <;> simp
      all_goals simp
    · split at h
      · cases h; unfold Canvas.afterLastRow; split <;> rfl
      · unfold Canvas.codeByte at h
        dsimp only at h
        split_ifs at h <;> cases h <;> simp

/-- What the code bytes leave, be the last one valid or not. -/
def Consumed.canvas : Consumed → Canvas
  | .all c => c
  | .damaged c => c

theorem consumeAll_head (l : List Byte) (c : Canvas) : (Canvas.consumeAll l c).canvas.head = c.head := by
  induction l generalizing c with
  | nil => rfl
  | cons b l ih =>
    unfold Canvas.consumeAll
    split
    · next c' h => rw [ih, consume_head h]
    · rfl

theorem close_head (c : Canvas) : c.close.head = c.head := by
  unfold Canvas.close; dsimp only; split_ifs <;> simp

/-! ### The fragment's own completion (R29, R43, R50) -/

/-- A slot with a version being built is LOADING or UPDATING. -/
theorem Slot.building_cases {x : Slot} {i : Version} (h : x.building = some i) :
    x = .loading i ∨ ∃ c, x = .updating c i := by
  cases x <;> simp_all [Slot.building]

/-- The fault flag of a load that completes, and its slot's move, are one change of the slot (R29, R40). -/
theorem complete_setFault (st : Store) (k : ObjId) (f : Bool) :
    (st.setFault k f).complete k = st.setSlot k ((st.slot k).setFault f).complete := by
  rw [Store.complete, Store.setFault, Store.setSlot_slot, if_pos rfl, Store.setSlot, Store.setSlot, Store.setSlot]
  simp only [Vector.set_set]

/-- The decoder works on the version being built. -/
theorem canvasOf_building {l : Load} {i : Version} {s : State} (h : (s.store.slot l.id).building = some i) :
    canvasOf l s = { load := l, chain := i.chain, mem := s.mem, fault := i.fault } := by
  rw [canvasOf, h]

/-- The code byte that damages a load ends it (R30, R50). -/
theorem damageLoad_eq {l : Load} {i : Version} {c : Canvas} {s : State} (hi : (s.store.slot l.id).building = some i)
    (hid : c.load.id = l.id) (hv : c.load.version = l.version) :
    damageLoad c s = { s with
      mem := c.mem, decoder := .skipping l.id
      store := (s.store.setSlot l.id (s.store.slot l.id).abandon).release i.chain
      report := (s.report.enqueue s.engine.fc (.damaged l.id c.load.row)).enqueue s.engine.fc
        (.abandoned l.id l.version .damaged) } := by
  have hb : (s.store.slot l.id).buildingChain = i.chain := by
    obtain h | ⟨c, h⟩ := Slot.building_cases hi <;> rw [h] <;> rfl
  rw [damageLoad, abandonLoad, hid, hv, ← hb]
  rfl

/-- A load that goes on (R43). -/
theorem keepLoad_eq {k : ObjId} {c : Canvas} (hid : c.load.id = k) (s : State) :
    keepLoad c s = { s with
      mem := c.mem, decoder := .await c.load, store := s.store.setSlot k ((s.store.slot k).setFault c.fault) } := by
  subst hid; rfl

/-- A load that is complete (R29, R43). -/
theorem finishLoad_eq {l : Load} {c : Canvas} (hid : c.load.id = l.id) (hv : c.load.version = l.version) (s : State) :
    finishLoad c s = { s with
      mem := c.mem, decoder := .idle
      store := s.store.setSlot l.id ((s.store.slot l.id).setFault c.fault).complete
      report := s.report.enqueue s.engine.fc (.ready l.id l.version c.fault) } := by
  rw [finishLoad, complete_setFault, hid, hv]; rfl

/-! ### The content that waited (R14) -/

/-- HOLD's next level with these segments in the queue (R11). -/
def Port.leftHold (p : Port) (q : List Segment) (hold : Bool) : Bool :=
  holdLevel ({ p with queue := q } : Port).segTotal ({ p with queue := q } : Port).byteTotal hold

/-- HOLD tested each time as n segments leave the head of a queue (R11). -/
def Port.holdAfter (p : Port) (q : List Segment) (n : Nat) : Bool :=
  (List.range n).foldl (fun hold m => p.leftHold (q.drop (m + 1)) hold) p.hold

theorem Port.holdAfter_cons (p : Port) (g : Segment) (q : List Segment) (n : Nat) :
    p.holdAfter (g :: q) (n + 1) = Port.holdAfter { p with queue := q, hold := p.leftHold q p.hold } q n := by
  rw [Port.holdAfter, Port.holdAfter, List.range_succ_eq_map, List.foldl_cons, List.foldl_map]
  rfl

theorem waitingBytes_nil : waitingBytes [] = 0 := rfl

theorem waitingBytes_cons (g : Segment) (q : List Segment) : waitingBytes (g :: q) = g.body.length + waitingBytes q := by
  simp [waitingBytes]

theorem waitingBytes_append (q r : List Segment) : waitingBytes (q ++ r) = waitingBytes q + waitingBytes r := by
  simp [waitingBytes]

/-- Content segments that an empty port takes, one after another, while the pin is high (R6, R9). -/
structure Waiting (q : List Segment) : Prop where
  content : ∀ x ∈ q, x.kind.express = false ∧ x.body.length ≤ 4000
  places : q.length ≤ 32
  bytes : waitingBytes q ≤ 16384

theorem Waiting.tail {g : Segment} {q : List Segment} (h : Waiting (g :: q)) : Waiting q := by
  obtain ⟨hc, hp, hb⟩ := h
  rw [waitingBytes_cons] at hb
  rw [List.length_cons] at hp
  exact ⟨fun x hx => hc x (List.mem_cons_of_mem g hx), by omega, by omega⟩

/-- Whole segments that arrive one after another. -/
def presents (q : List Segment) (s : State) : State := q.foldl (fun s g => present g s) s

/-- An empty port tests HOLD to released as a segment comes and goes (R11). -/
theorem visit_reset (n : Nat) : (Port.reset false).visit n = Port.reset false := by
  rw [Port.visit_eq]; rfl

/-- An empty, idle port accepts any segment of an allowed length. -/
theorem accepts_reset {s : State} (hl : s.resetLow = false) {n : Nat} (hn : n ≤ 4000) :
    Accepts (s.setPort (Port.reset false)) n :=
  ⟨hl, Nat.zero_lt_succ 31, hn, by
    show 0 + n ≤ 16384
    omega⟩

/-- Behind a busy decoder all the segments wait (R14). -/
theorem presents_busy {q : List Segment} {s : State} (hl : s.resetLow = false) (hb : s.decoder.busy = true)
    (hr : s.port.Rests) (hc : ∀ x ∈ q, x.kind.express = false ∧ x.body.length ≤ 4000)
    (hp : s.port.queue.length + q.length ≤ 32) (hw : waitingBytes s.port.queue + waitingBytes q ≤ 16384) :
    ∃ hold, presents q s = s.setPort { s.port with queue := s.port.queue ++ q, hold := hold } := by
  induction q generalizing s with
  | nil => exact ⟨s.port.hold, by rw [List.append_nil]; rfl⟩
  | cons g q ih =>
    obtain ⟨hx, hn⟩ := hc g List.mem_cons_self
    rw [waitingBytes_cons] at hw
    rw [List.length_cons] at hp
    have ha : Accepts s g.body.length := by
      refine ⟨hl, ?_, hn, ?_⟩
      · rw [Port.segTotal_eq, hr.1]; simp only [Receiver.places_hunt, Config.maxSegments]; omega
      · rw [Port.byteTotal_eq, hr.1]; simp only [Receiver.stored_hunt, Config.maxQueueBytes]; omega
    have hj : present g s = s.setPort (Port.testHold { s.port with queue := s.port.queue ++ [g] }) := by
      rw [present_waits hx ha hb, joined, Port.hunted_hunt hr.1, ← hr.2]; rfl
    obtain ⟨hold, h⟩ := ih (s := present g s) (by rw [hj]; exact hl) (by rw [hj]; exact hb) (by rw [hj]; exact hr)
      (fun x hm => hc x (List.mem_cons_of_mem g hm)) (by rw [hj]; simp; omega)
      (by rw [hj]; simp only [State.setPort_port, Port.testHold_queue, waitingBytes_append, waitingBytes_cons, waitingBytes_nil]; omega)
    refine ⟨hold, ?_⟩
    show presents q (present g s) = _
    rw [h, hj]
    simp only [State.setPort_port, Port.testHold_queue, List.append_assoc, List.singleton_append]
    rfl

/-- A content segment that arrives at an empty port and a free decoder (R14). -/
theorem present_reset {g : Segment} {s : State} (hl : s.resetLow = false) (hb : s.decoder.busy = false)
    (hx : g.kind.express = false) (hn : g.body.length ≤ 4000) :
    present g (s.setPort (Port.reset false)) =
      if (takeSegment g s).decoder.busy then
        (takeSegment g s).setPort (Port.testHold { Port.reset false with queue := [g] })
      else (takeSegment g s).setPort (Port.reset false) := by
  have hfree := present_free hx (s := s.setPort (Port.reset false)) ⟨accepts_reset hl hn, hb, rfl⟩
  rw [takeSegment_setPort hx, State.setPort_decoder] at hfree
  rw [hfree, ← takeSegment_setPort hx, ← takeSegment_setPort hx, visited, State.setPort_port, visit_reset]
  rfl

/-- The first of the waiting segments makes the decoder busy: it and all after it wait (R14). -/
theorem presents_kept {g : Segment} {q : List Segment} (hq : Waiting (g :: q)) {s : State} (hl : s.resetLow = false)
    (hb : s.decoder.busy = false) (hbusy : (takeSegment g s).decoder.busy = true) :
    ∃ hold, presents (g :: q) (s.setPort (Port.reset false)) =
      (takeSegment g s).setPort { Port.reset false with queue := g :: q, hold := hold } := by
  obtain ⟨hx, hlen⟩ := hq.content g List.mem_cons_self
  have hkept := present_reset hl hb hx hlen
  rw [if_pos hbusy] at hkept
  have hp := hq.places
  have hw := hq.bytes
  rw [List.length_cons] at hp
  rw [waitingBytes_cons] at hw
  obtain ⟨hold, hu⟩ := presents_busy (q := q) (s := present g (s.setPort (Port.reset false)))
    (by rw [hkept]; simpa using hl) (by rw [hkept]; exact hbusy) (by rw [hkept]; exact ⟨rfl, rfl⟩) hq.tail.content
    (by rw [hkept]; simp; omega)
    (by rw [hkept]; simp only [State.setPort_port, Port.testHold_queue, waitingBytes_cons, waitingBytes_nil]; omega)
  refine ⟨hold, ?_⟩
  show presents q (present g (s.setPort (Port.reset false))) = _
  rw [hu, hkept]
  rfl

/-- The taking of waiting content and the arrival of the same segments at an empty port come to the same blocks; a segment
that leaves the queue on the one side has been taken on the other (R11, R14). -/
theorem drainContent_eq_presents {q : List Segment} (hq : Waiting q) {s : State} (hl : s.resetLow = false)
    (hb : s.decoder.busy = false) (hs : s.port.queue = q) {n : Nat} (hn : q.length ≤ n) :
    (presents q (s.setPort (Port.reset false))).port.queue.length ≤ q.length ∧
      drainContent n s = (presents q (s.setPort (Port.reset false))).setPort { s.port with
        queue := (presents q (s.setPort (Port.reset false))).port.queue
        hold := s.port.holdAfter q (q.length - (presents q (s.setPort (Port.reset false))).port.queue.length) } := by
  induction q generalizing s n with
  | nil =>
    refine ⟨le_rfl, ?_⟩
    rw [drainContent_empty n hs]
    show s = (s.setPort (Port.reset false)).setPort { s.port with queue := [], hold := s.port.hold }
    rw [← hs]; rfl
  | cons g q ih =>
    obtain ⟨hx, hlen⟩ := hq.content g List.mem_cons_self
    obtain ⟨n, rfl⟩ : ∃ m, n = m + 1 := ⟨n - 1, by rw [List.length_cons] at hn; omega⟩
    rw [List.length_cons] at hn
    by_cases hbusy : (takeSegment g s).decoder.busy = true
    · obtain ⟨hold, hu⟩ := presents_kept hq hl hb hbusy
      rw [drainContent_cons hb hs hx, if_pos hbusy, hu]
      refine ⟨le_rfl, ?_⟩
      show takeSegment g s = (takeSegment g s).setPort { s.port with
        queue := g :: q, hold := s.port.holdAfter (g :: q) (q.length + 1 - (q.length + 1)) }
      rw [Nat.sub_self, ← hs, show s.port.holdAfter s.port.queue 0 = s.port.hold from rfl, ← takeSegment_port hx s]
      rfl
    · have hleft : (takeSegment g (leaveHead s)).setPort (Port.reset false) = present g (s.setPort (Port.reset false)) := by
        rw [present_reset hl hb hx hlen, if_neg hbusy, leaveHead, takeSegment_setPort hx]
        rfl
      have hport : (takeSegment g (leaveHead s)).port =
          { s.port with queue := q, hold := s.port.leftHold q s.port.hold } := by
        rw [takeSegment_port hx, leaveHead, hs]; rfl
      have hfree : (takeSegment g (leaveHead s)).decoder.busy = false := by
        rw [leaveHead, takeSegment_setPort hx]
        exact Bool.eq_false_iff.mpr hbusy
      obtain ⟨hle, he⟩ := ih hq.tail (s := takeSegment g (leaveHead s)) (by rw [takeSegment_resetLow]; exact hl) hfree
        (by rw [hport]) (Nat.le_of_succ_le_succ hn)
      rw [hleft] at hle he
      rw [drainContent_cons hb hs hx, if_neg hbusy,
        show presents (g :: q) _ = presents q (present g (s.setPort (Port.reset false))) from rfl]
      refine ⟨Nat.le_succ_of_le hle, ?_⟩
      rw [he, hport, List.length_cons, Nat.succ_sub hle, Port.holdAfter_cons]

theorem present_resetLow (g : Segment) (s : State) : (present g s).resetLow = s.resetLow := by
  unfold present; split; exacts [rfl, routeSegment_resetLow g _]

/-- A hunting receiver hunts again once a segment has gone by. -/
theorem present_rx {s : State} (hx : s.port.rx = .hunt) (hw : waitingBytes s.port.queue ≤ 16384) (g : Segment) :
    (present g s).port.rx = .hunt := by
  rw [present_hunt hx hw]
  split_ifs
  case neg => exact (routeSegment_rests (s := s.setPort { s.port with ffCount := 0, hold := _ }) ⟨hx, rfl⟩ g).1
  all_goals exact hx

/-- Segments on the wire, one after another (log entry 3). -/
theorem feed_flatMap_wireBytes {q : List Segment} (hq : ∀ x ∈ q, x.body.length < 65536) {s : State} (h : PortInv s)
    (hl : s.resetLow = false) (hx : s.port.rx = .hunt) : feed (q.flatMap (wireBytes 0x01)) s = presents q s := by
  induction q generalizing s with
  | nil => rfl
  | cons g q ih =>
    have hw := h.totals.2
    rw [List.flatMap_cons, feed_append,
      feed_wireBytes hx h.bytes (h.holdTested hl) (.inl rfl) (hq g List.mem_cons_self)]
    exact ih (fun x hm => hq x (List.mem_cons_of_mem g hm)) (present_portInv h hl g)
      ((present_resetLow g s).trans hl) (present_rx hx (Nat.le_of_add_right_le hw) g)

/-- Content that waits is taken once the fragment in hand is done and gone (R14, R43). -/
theorem exec_fragmentComplete {l : Load} {pos : Position} {code : List Byte} {g : Segment} {rest : List Segment}
    {s : State} (hl : s.resetLow = false) (hd : s.decoder = .decoding l pos code) (hq : s.port.queue = g :: rest) :
    exec .fragmentComplete s =
      .next (drainContent (rest.length + 1) (leaveHead (completeFragment l pos code s))) := by
  show Host.Outcome.next (unlessHeld fragmentDone s) = _
  rw [unlessHeld, hl, fragmentDone, hd, hq]; rfl

/-- Settles O19: the fragment's own completion, then the waiting content against its arrival at an empty port. -/
theorem fragmentCompletes : Obligations.FragmentCompletes := by
  intro l pos code g rest i s hl hd hq hi p inc built undone done
  have hslot := Slot.building_cases hi
  have hundone : (s.store.slot l.id).abandon = undone := by
    unfold undone; obtain h | ⟨c, h⟩ := hslot <;> rw [h] <;> rfl
  have hbuilt (f : Bool) : (s.store.slot l.id).setFault f = built f false := by
    unfold built; obtain h | ⟨c, h⟩ := hslot <;> rw [h] <;> rfl
  have hwhole (f : Bool) : ((s.store.slot l.id).setFault f).complete = built f true := by
    unfold built; obtain h | ⟨c, h⟩ := hslot <;> rw [h] <;> rfl
  have hdone : leaveHead (completeFragment l pos code s) = done := by
    have hp : Port.testHold { s.port with queue := s.port.queue.tail } = p := by rw [hq]; rfl
    have hh := consumeAll_head code { load := l, chain := i.chain, mem := s.mem, fault := i.fault }
    unfold done
    rw [leaveHead, completeFragment_port, hp, completeFragment, canvasOf_building hi]
    cases hc : Canvas.consumeAll code { load := l, chain := i.chain, mem := s.mem, fault := i.fault } with
    | damaged c =>
      rw [hc] at hh
      obtain ⟨hid, hv⟩ := load_of_head (c := c) hh
      dsimp only
      rw [damageLoad_eq hi hid hv, hundone]; rfl
    | all c =>
      rw [hc] at hh
      obtain ⟨hid, hv⟩ := load_of_head ((close_head c).trans hh)
      cases pos <;> dsimp only
      case first | middle => rw [keepLoad_eq (load_of_head (c := c) hh).1, hbuilt]; rfl
      case last | only => rw [finishLoad_eq hid hv, hwhole]; rfl
  have hport : done.port = p := by
    rw [← hdone, leaveHead, completeFragment_port, hq]; rfl
  have hlow : done.resetLow = false := by rw [← hdone]; exact (completeFragment_resetLow l pos code s).trans hl
  have hfree : done.decoder.busy = false := by rw [← hdone]; exact completeFragment_free l pos code s
  rw [exec_fragmentComplete hl hd hq, hdone]
  refine ⟨fun hrest => ?_, fun hc hlen hsum => ?_⟩
  · rw [drainContent_empty]
    rw [hport, ← hrest]; rfl
  · obtain ⟨hle, he⟩ := drainContent_eq_presents ⟨hc, Nat.le_succ_of_le hlen, hsum⟩ hlow hfree (by rw [hport]; rfl)
      (Nat.le_succ rest.length)
    have hinv : PortInv (done.setPort (Port.reset false)) :=
      .of_parts hlow ⟨Nat.zero_le 32, Nat.zero_le 16384, trivial⟩ rfl
        ⟨fun h => absurd (hfree.symm.trans h) (by decide), fun _ => rfl⟩
    refine ⟨_, presents rest (done.setPort (Port.reset false)), rfl, ?_, ?_, ?_⟩
    · show strobe _ (done.setPort (Port.reset false)) = _
      rw [strobe_eq_feed (s := done.setPort (Port.reset false)) hlow, feed_flatMap_wireBytes (fun x hm => ?_) hinv hlow rfl]
      exact (hc x hm).2.trans_lt (by decide)
    · rw [he, hport]; rfl
    · rw [he, hport, List.range_succ_eq_map, List.foldl_cons, List.foldl_map]; rfl

end Sys2Proof.Machine
end

section
/-! PROOFS. The bodies of segments: a reader accepts a body exactly where the checks of its kind hold (chapter 11, R15). -/

namespace Sys2Proof.Machine

open Sys2Proof

/-! ### Bytes and fields at an offset -/

theorem num8_eq (b : List Byte) (o : Nat) : num8 b o = (at8 b o).toNat := by
  rw [num8, at8, List.getD_eq_getElem?_getD]

theorem num16_eq (b : List Byte) (o : Nat) : num16 b o = (at16 b o).toNat := by
  rw [num16, num8_eq, num8_eq, at16, toNat_append_add]; omega

theorem num8_lt (b : List Byte) (o : Nat) : num8 b o < 256 := BitVec.isLt _

/-- A field compared with a byte, as a number. -/
theorem byte_eq_iff (x y : Byte) : x = y ↔ x.toNat = y.toNat := BitVec.toNat_inj.symm

/-- Record `r` of `size` bytes lies at offset `o` of a body. -/
def LiesAt (size : Nat) (r b : List Byte) (o : Nat) : Prop := ∀ i < size, at8 r i = at8 b (o + i)

theorem liesAt_take_drop (size o : Nat) (b : List Byte) : LiesAt size ((b.drop o).take size) b o := by
  intro i hi
  simp only [at8, List.getD_eq_getElem?_getD, List.getElem?_take, if_pos hi, List.getElem?_drop]

theorem liesAt_drop (size o : Nat) (b : List Byte) : LiesAt size (b.drop o) b o := by
  intro i _
  simp only [at8, List.getD_eq_getElem?_getD, List.getElem?_drop]

section Record

variable {size : Nat} {r b : List Byte} {o : Nat} (h : LiesAt size r b o)
include h

theorem LiesAt.byte {i : Nat} (hi : i < size) : (at8 r i).toNat = num8 b (o + i) := by rw [h i hi, num8_eq]

theorem LiesAt.half {i : Nat} (hi : i + 1 < size) : (at16 r i).toNat = num16 b (o + i) := by
  rw [num16_eq, at16, at16, h i (Nat.lt_of_succ_lt hi), h (i + 1) hi, Nat.add_assoc]

end Record

/-- The records of a body, each at its offset. -/
theorem records_eq (size n o : Nat) (b : List Byte) :
    records size n (b.drop o) = (List.range n).map fun j => (b.drop (o + size * j)).take size := by
  induction n generalizing o with
  | zero => rfl
  | succ n ih =>
    rw [records, List.drop_drop, ih, List.range_succ_eq_map, List.map_cons, List.map_map]
    congr 1
    refine List.map_congr_left fun j _ => ?_
    simp only [Function.comp, Nat.mul_succ]
    congr 2
    omega

theorem allSome_isSome {α : Type} (l : List (Option α)) : (allSome l).isSome = true ↔ ∀ x ∈ l, x.isSome = true := by
  induction l with
  | nil => simp [allSome]
  | cons x l ih => cases x <;> simp [allSome, ih]

theorem allSome_eq_some {α : Type} {l : List (Option α)} {r : List α} (h : allSome l = some r) : l = r.map some := by
  induction l generalizing r with
  | nil => cases h; rfl
  | cons x l ih =>
    cases x with
    | none => cases h
    | some x =>
      obtain ⟨r, hr, rfl⟩ := Option.map_eq_some_iff.mp h
      rw [ih hr]; rfl

/-- Every record of a list is read where each one's checks hold. -/
theorem allSome_records_isSome {α : Type} {f : List Byte → Option α} {P : Nat → Prop} {size : Nat} {b : List Byte}
    (hf : ∀ r o, LiesAt size r b o → ((f r).isSome = true ↔ P o)) (n o : Nat) :
    (allSome ((records size n (b.drop o)).map f)).isSome = true ↔ ∀ j < n, P (o + size * j) := by
  rw [allSome_isSome, records_eq]
  simp only [List.map_map, List.mem_map, List.mem_range, Function.comp, forall_exists_index, and_imp,
    forall_apply_eq_imp_iff₂]
  exact forall₂_congr fun j _ => hf _ _ (liesAt_take_drop size _ b)

/-! ### Small fields (11.2) -/

theorem finOf?_isSome (n x : Nat) : (finOf? n x).isSome = true ↔ x < n := by
  unfold finOf?; split <;> simp_all

theorem readFlag_isSome (b : Byte) : (readFlag b).isSome = true ↔ b.toNat ≤ 1 := by
  unfold readFlag
  simp only [byte_eq_iff b 0, byte_eq_iff b 1, show (0 : Byte).toNat = 0 from rfl, show (1 : Byte).toNat = 1 from rfl]
  split_ifs <;> simp <;> omega

theorem readPageOrNone_isSome (b : Byte) : (readPageOrNone b).isSome = true ↔ b.toNat ≤ 31 ∨ b.toNat = 255 := by
  unfold readPageOrNone
  simp only [byte_eq_iff b 0xFF, show (0xFF : Byte).toNat = 255 from rfl]
  split
  · simp; omega
  · rw [Option.isSome_map, finOf?_isSome]; simp only [Config.numPages]; omega

theorem readDefault_isSome (b : Byte) : (readDefault b).isSome = true ↔ b.toNat ≤ 23 ∨ b.toNat = 255 := by
  unfold readDefault
  simp only [byte_eq_iff b 0xFF, show (0xFF : Byte).toNat = 255 from rfl]
  split_ifs <;> simp <;> omega

theorem readNumber_isSome (b : Byte) :
    (readNumber b).isSome = true ↔ 1 ≤ b.toNat ∧ b.toNat ≤ 99 ∨ b.toNat = 255 := by
  unfold readNumber
  simp only [byte_eq_iff b 0xFF, show (0xFF : Byte).toNat = 255 from rfl]
  split_ifs <;> simp <;> omega

theorem readCtx_isSome (b : Byte) : (readCtx b).isSome = true ↔ b.toNat ≤ 2 := by
  unfold readCtx; generalize b.toNat = n; split <;> grind

theorem readTransition_isSome (k n : Byte) : (readTransition k n).isSome = true ↔ k.toNat ≤ 2 := by
  unfold readTransition; generalize k.toNat = m; split <;> grind

theorem readDepth_isSome (b : Byte) : (readDepth b).isSome = true ↔ b.toNat = 2 ∨ b.toNat = 4 ∨ b.toNat = 8 := by
  unfold readDepth; generalize b.toNat = n; split <;> grind

theorem readReduction_isSome (b : Byte) :
    (readReduction b).isSome = true ↔ b.toNat = 1 ∨ b.toNat = 2 ∨ b.toNat = 4 := by
  unfold readReduction; generalize b.toNat = n; split <;> grind

theorem readMode_isSome (b : Byte) : (readMode b).isSome = true ↔ b.toNat / 16 % 8 ≤ 3 := by
  unfold readMode; generalize b.toNat / 16 % 8 = n; split <;> grind

theorem readCondMode_isSome (b : Byte) : (readCondMode b).isSome = true ↔ b.toNat ≤ 2 := by
  unfold readCondMode; generalize b.toNat = n; split <;> grind

theorem readAnimMode_isSome (b : Byte) : (readAnimMode b).isSome = true ↔ b.toNat ≤ 1 := by
  unfold readAnimMode; generalize b.toNat = n; split <;> grind

theorem readStartKind_isSome (b : Byte) : (readStartKind b).isSome = true ↔ b.toNat ≤ 3 := by
  unfold readStartKind; generalize b.toNat = n; split <;> grind

theorem readStopKind_isSome (b : Byte) : (readStopKind b).isSome = true ↔ b.toNat ≤ 2 := by
  unfold readStopKind; generalize b.toNat = n; split <;> grind

theorem readEndMode_isSome (b : Byte) : (readEndMode b).isSome = true ↔ b.toNat ≤ 2 := by
  unfold readEndMode; generalize b.toNat = n; split <;> grind

theorem readKeyCode_isSome (b : Byte) : (readKeyCode b).isSome = true ↔ b.toNat ≤ 7 := by
  unfold readKeyCode; generalize b.toNat = n; split <;> grind

theorem readVisual_isSome (k : Byte) (x : Half) :
    (readVisual k x).isSome = true ↔ k.toNat ≤ 2 ∧ (k.toNat = 1 → x.toNat ≤ 511) := by
  unfold readVisual
  generalize k.toNat = n
  split
  case h_2 => simp [finOf?_isSome, Nat.lt_succ_iff]
  all_goals grind

theorem readPageId_isSome (x : Nat) : (finOf? Config.numPages x).isSome = true ↔ x ≤ 31 :=
  (finOf?_isSome _ _).trans Nat.lt_succ_iff

theorem readObjId_isSome (x : Nat) : (finOf? Config.numObjects x).isSome = true ↔ x ≤ 511 :=
  (finOf?_isSome _ _).trans Nat.lt_succ_iff

theorem readPaletteId_isSome (x : Nat) : (finOf? Config.numPalettes x).isSome = true ↔ x ≤ 7 :=
  (finOf?_isSome _ _).trans Nat.lt_succ_iff

/-- An action that changes the page reads a page id and a transition (11.6). -/
theorem readPageAction_isSome (f : PageId → Transition → Action) (o0 o1 o2 : Byte) :
    (match finOf? Config.numPages o0.toNat, readTransition o1 o2 with
      | some p, some t => some (f p t)
      | _, _ => none).isSome = true ↔ o0.toNat ≤ 31 ∧ o1.toNat ≤ 2 := by
  rw [← readPageId_isSome, ← readTransition_isSome o1 o2]
  cases finOf? Config.numPages o0.toNat <;> cases readTransition o1 o2 <;> simp

theorem readAction_isSome (kind o0 o1 o2 o3 : Byte) :
    (readAction kind o0 o1 o2 o3).isSome = true ↔
      kind.toNat ≤ 7 ∧ (kind.toNat = 1 ∨ kind.toNat = 2 → o0.toNat ≤ 31) ∧
        (1 ≤ kind.toNat ∧ kind.toNat ≤ 4 → o1.toNat ≤ 2) ∧ (kind.toNat = 5 → o0.toNat ≤ 63) := by
  unfold readAction
  generalize kind.toNat = n
  split
  case h_2 => exact (readPageAction_isSome .goto o0 o1 o2).trans (by simp)
  case h_3 => exact (readPageAction_isSome .replace o0 o1 o2).trans (by simp)
  case h_4 | h_5 => simp [readTransition_isSome]
  case h_6 => split <;> simp <;> omega
  case h_9 => grind
  all_goals simp

/-! ### The readers, kind by kind -/

theorem readSetOpen_isSome (b : List Byte) :
    (readSetOpen b).isSome = true ↔ b.length = 3 ∧ (num8 b 2 ≤ 31 ∨ num8 b 2 = 0xFF) := by
  unfold readSetOpen
  split <;> simp_all [readPageOrNone_isSome, num8_eq]

theorem readDrop_isSome (b : List Byte) : (readDrop b).isSome = true ↔ b.length = 2 ∧ num16 b 0 ≤ 511 := by
  unfold readDrop
  split <;> simp_all [finOf?_isSome, num16_eq, Nat.lt_succ_iff]

theorem readOpening_isSome (k : ObjId) (only : Bool) (b : List Byte) :
    (readOpening k only b).isSome = true ↔
      9 ≤ b.length ∧ 1 ≤ num16 b 4 ∧ num16 b 4 ≤ 1920 ∧ 1 ≤ num16 b 6 ∧ num16 b 6 ≤ 1080 ∧
        (num8 b 8 = 2 ∨ num8 b 8 = 4 ∨ num8 b 8 = 8) := by
  unfold readOpening
  simp only [← num16_eq]
  split_ifs <;> simp_all [readDepth_isSome, num8_eq]

theorem readFragment_isSome (b : List Byte) :
    (readFragment b).isSome = true ↔
      3 ≤ b.length ∧ num16 b 0 ≤ 511 ∧ num8 b 2 ≤ 3 ∧
        (num8 b 2 = 0 ∨ num8 b 2 = 3 →
          9 ≤ b.length ∧ 1 ≤ num16 b 4 ∧ num16 b 4 ≤ 1920 ∧ 1 ≤ num16 b 6 ∧ num16 b 6 ≤ 1080 ∧
            (num8 b 8 = 2 ∨ num8 b 8 = 4 ∨ num8 b 8 = 8)) := by
  unfold readFragment
  rw [← readObjId_isSome, num16_eq b 0, ← num8_eq b 2]
  split
  · next hlen =>
    cases finOf? Config.numObjects (at16 b 0).toNat with
    | none => simp
    | some k =>
      generalize num8 b 2 = p
      simp only
      split
      case h_5 => grind
      all_goals simp [hlen, readOpening_isSome]
  · next hlen => simp [hlen]

theorem readPalette_isSome (b : List Byte) :
    (readPalette b).isSome = true ↔
      b.length = 6 + 5 * (256 * (num8 b 0 / 128) + num8 b 1) ∧ 256 * (num8 b 0 / 128) + num8 b 1 ≤ 256 ∧
        num8 b 0 % 16 ≤ 7 ∧ num8 b 0 / 16 % 8 ≤ 3 := by
  rw [← readPaletteId_isSome, num8_eq b 0, num8_eq b 1, ← readMode_isSome, Nat.mul_comm 256]
  unfold readPalette
  dsimp only
  split
  · next h =>
    cases finOf? Config.numPalettes ((at8 b 0).toNat % 16) <;> cases readMode (at8 b 0) <;> simp [h]
  · next h => simp only [← and_assoc, h, false_and, Option.isSome_none, Bool.false_eq_true]

theorem readPlacement_isSome {r b : List Byte} {o : Nat} (h : LiesAt 18 r b o) :
    (readPlacement r).isSome = true ↔ PlacementFits b o := by
  have h0 := h.half (i := 0) (by decide)
  have h6 := h.byte (i := 6) (by decide)
  have h8 := h.byte (i := 8) (by decide)
  rw [Nat.add_zero] at h0
  rw [PlacementFits, ← h0, ← h6, ← h8, ← readObjId_isSome, ← readPaletteId_isSome, ← readReduction_isSome, readPlacement]
  split
  · next hk hp hq => simp [hk, hp, hq]
  · next hn =>
    simp only [Option.isSome_none, Bool.false_eq_true, Option.isSome_iff_exists, false_iff]
    rintro ⟨⟨k, hk⟩, ⟨p, hp⟩, ⟨q, hq⟩⟩
    exact hn k p q hk hp hq

theorem readPage_isSome (b : List Byte) : (readPage b).isSome = true ↔ PageFits b := by
  have hl : (allSome ((records 18 (at8 b 4).toNat (b.drop 5)).map readPlacement)).isSome = true ↔
      ∀ j < num8 b 4, PlacementFits b (5 + 18 * j) := by
    rw [allSome_records_isSome fun r o h => readPlacement_isSome h, num8_eq b 4]
  rw [PageFits, ← hl, num8_eq b 0, num8_eq b 1, num8_eq b 2, num8_eq b 4, ← readPageId_isSome, ← readFlag_isSome,
    ← readDefault_isSome, readPage]
  split
  · next h =>
    obtain ⟨_, hc, hlen⟩ := h
    split
    · next h1 h2 h3 h4 => simp [h1, h2, h3, h4, hc, hlen]
    · next hn =>
      simp only [Option.isSome_none, Bool.false_eq_true, Option.isSome_iff_exists, false_iff]
      rintro ⟨-, -, ⟨p, h1⟩, ⟨f, h2⟩, ⟨d, h3⟩, ⟨l, h4⟩⟩
      exact hn p f d l h1 h2 h3 h4
  · next h =>
    simp only [Option.isSome_none, Bool.false_eq_true, false_iff]
    rintro ⟨hlen, hc, -⟩
    exact h ⟨by omega, hc, hlen⟩

theorem readScroll_isSome (b : List Byte) : (readScroll b).isSome = true ↔ b.length = 6 ∧ num8 b 0 ≤ 31 := by
  rw [readScroll, num8_eq]
  split <;> simp_all [readPageId_isSome]

theorem readShow_isSome (b : List Byte) : (readShow b).isSome = true ↔ ShowFits b := by
  rw [ShowFits, num8_eq b 0, num8_eq b 1, num8_eq b 2, num8_eq b 7, ← readCtx_isSome, ← readPageOrNone_isSome,
    ← readFlag_isSome, ← readTransition_isSome _ (at8 b 8), readShow]
  split
  · next hlen =>
    split
    · next h1 h2 h3 h4 => simp [h1, h2, h3, h4, hlen]
    · next hn =>
      simp only [Option.isSome_none, Bool.false_eq_true, Option.isSome_iff_exists, false_iff]
      rintro ⟨-, ⟨c, h1⟩, ⟨p, h2⟩, ⟨f, h3⟩, ⟨t, h4⟩⟩
      exact hn c p f t h1 h2 h3 h4
  · next hlen => simp [hlen]

/-- A visual triple of a record (11.6). -/
theorem readVisual_liesAt {size : Nat} {r b : List Byte} {o : Nat} (h : LiesAt size r b o) {i : Nat} (hi : i + 2 < size) :
    (readVisual (at8 r i) (at16 r (i + 1))).isSome = true ↔ VisualFits b (o + i) := by
  rw [readVisual_isSome, h.byte (by omega), h.half (by omega)]; rfl

theorem readButton_isSome {r b : List Byte} {o : Nat} (h : LiesAt 31 r b o) (placements : Nat) :
    (readButton placements r).isSome = true ↔ ButtonFits placements b o := by
  have hn := readNumber_isSome (at8 r 1)
  have hm := readCondMode_isSome (at8 r 6)
  have hf := readFlag_isSome (at8 r 23)
  have ha := readAction_isSome (at8 r 24) (at8 r 25) (at8 r 26) (at8 r 27) (at8 r 28)
  rw [h.byte (by decide)] at hn hm hf
  rw [h.byte (i := 24) (by decide), h.byte (i := 25) (by decide), h.byte (i := 26) (by decide)] at ha
  have h0 := h.byte (i := 0) (by decide)
  rw [Nat.add_zero] at h0
  rw [ButtonFits, ← hn, ← hm, ← hf, ← readVisual_liesAt h (i := 11) (by decide), ← readVisual_liesAt h (i := 14) (by decide),
    ← readVisual_liesAt h (i := 17) (by decide), ← readVisual_liesAt h (i := 20) (by decide),
    show ActionFits b (o + 24) ↔ _ from ha.symm, ← h0, readButton]
  split
  · next hp =>
    split
    · next h1 h2 h3 h4 h5 h6 h7 h8 => simp [h1, h2, h3, h4, h5, h6, h7, h8, hp]
    · next hn =>
      simp only [Option.isSome_none, Bool.false_eq_true, Option.isSome_iff_exists, false_iff]
      rintro ⟨-, ⟨n, h1⟩, ⟨m, h2⟩, ⟨v1, h3⟩, ⟨v2, h4⟩, ⟨v3, h5⟩, ⟨v4, h6⟩, ⟨f, h7⟩, ⟨a, h8⟩⟩
      exact hn n m v1 v2 v3 v4 f a h1 h2 h3 h4 h5 h6 h7 h8
  · next hp => simp [hp]

theorem readConfig_isSome {r b : List Byte} {o : Nat} (h : LiesAt 16 r b o) :
    (readConfig r).isSome = true ↔ ConfigFits b o := by
  have h0 := h.byte (i := 0) (by decide)
  have h9 := h.byte (i := 9) (by decide)
  have h14 := h.byte (i := 14) (by decide)
  have h15 := h.byte (i := 15) (by decide)
  rw [Nat.add_zero] at h0
  rw [ConfigFits, ← h0, ← h9, ← h14, ← h15, ← readStartKind_isSome, ← readStopKind_isSome, ← readEndMode_isSome,
    readConfig]
  split
  · next h1 h2 h3 => split <;> simp_all
  · next hn =>
    simp only [Option.isSome_none, Bool.false_eq_true, Option.isSome_iff_exists, false_iff]
    rintro ⟨⟨a, h1⟩, ⟨z, h2⟩, -, ⟨e, h3⟩⟩
    exact hn a z e h1 h2 h3

theorem readSlideEntry_isSome {r b : List Byte} {o : Nat} (h : LiesAt 10 r b o) :
    (readSlideEntry r).isSome = true ↔ num8 b o ≤ 31 ∧ num8 b (o + 3) ≤ 2 := by
  have h0 := h.byte (i := 0) (by decide)
  have h3 := h.byte (i := 3) (by decide)
  rw [Nat.add_zero] at h0
  rw [← h0, ← h3, ← readPageId_isSome, ← readTransition_isSome _ (at8 r 4), readSlideEntry]
  cases finOf? Config.numPages (at8 r 0).toNat <;> cases readTransition (at8 r 3) (at8 r 4) <;> simp

theorem readSlideList_isSome (b : List Byte) : (readSlideList b).isSome = true ↔ SlideListFits b := by
  have hl : (allSome ((records 10 (at8 b 0).toNat (b.drop 18)).map readSlideEntry)).isSome = true ↔
      ∀ j < num8 b 0, num8 b (18 + 10 * j) ≤ 31 ∧ num8 b (18 + 10 * j + 3) ≤ 2 := by
    rw [allSome_records_isSome (P := fun o => num8 b o ≤ 31 ∧ num8 b (o + 3) ≤ 2)
      fun r o h => readSlideEntry_isSome h, num8_eq b 0]
  rw [SlideListFits, ← hl, num8_eq b 0, num8_eq b 17, ← readFlag_isSome, ← readConfig_isSome (liesAt_drop 16 1 b),
    readSlideList]
  split
  · next h =>
    obtain ⟨_, hc, hlen⟩ := h
    split
    · next h1 h2 h3 => simp only [h1, h2, h3, hc, hlen, Option.isSome_some, and_self]
    · next hn =>
      simp only [Option.isSome_none, Bool.false_eq_true, Option.isSome_iff_exists, false_iff]
      rintro ⟨-, -, ⟨c, h1⟩, ⟨a, h2⟩, ⟨l, h3⟩⟩
      exact hn c a l h1 h2 h3
  · next h =>
    simp only [Option.isSome_none, Bool.false_eq_true, false_iff]
    rintro ⟨hlen, hc, -⟩
    exact h ⟨by omega, hc, hlen⟩

/-- The code of NUMBER (11.2). -/
theorem readKeyCode_number {b : Byte} {k : Key} (h : readKeyCode b = some k) : k = .number ↔ b.toNat = 6 := by
  revert h
  unfold readKeyCode
  generalize b.toNat = n
  split <;> grind

theorem readKey_isSome (b : List Byte) :
    (readKey b).isSome = true ↔
      b.length = 3 ∧ num8 b 0 ≤ 7 ∧ num8 b 2 ≤ 1 ∧ (num8 b 0 = 6 → 1 ≤ num8 b 1 ∧ num8 b 1 ≤ 99) := by
  rw [num8_eq b 0, num8_eq b 1, num8_eq b 2, ← readKeyCode_isSome, ← readFlag_isSome, readKey]
  split
  · next hlen =>
    split
    · next h1 h2 => simp only [readKeyCode_number h1]; split <;> simp_all
    · next hn =>
      simp only [Option.isSome_none, Bool.false_eq_true, Option.isSome_iff_exists, false_iff]
      rintro ⟨-, ⟨k, h1⟩, ⟨r, h2⟩, -⟩
      exact hn k r h1 h2
  · next hlen => simp [hlen]

theorem readOutput_isSome (b : List Byte) : (readOutput b).isSome = true ↔ b.length = 4 ∧ num8 b 0 ≤ 2 := by
  rw [readOutput, num8_eq]
  split
  · next h =>
    dsimp only
    generalize (at8 b 0).toNat = n
    split <;> grind
  · next h => simp [h]

theorem readMask_isSome (b : List Byte) : (readMask b).isSome = true ↔ b.length = 1 ∧ num8 b 0 < 128 := by
  have hb : (at8 b 0).getLsbD 7 = false ↔ num8 b 0 < 128 := by
    have := num8_lt b 0
    rw [num8_eq] at this ⊢
    rw [BitVec.getLsbD, Nat.testBit_eq_decide_div_mod_eq, decide_eq_false_iff_not]
    omega
  rw [readMask, ← hb]
  split <;> simp_all

theorem readSlideControl_isSome (b : List Byte) :
    (readSlideControl b).isSome = true ↔
      num8 b 0 ≤ 8 ∧ b.length = (if num8 b 0 = 0 then 17 else 1) ∧ (num8 b 0 = 0 → ConfigFits b 1) := by
  cases b with
  | nil => simp [readSlideControl, num8]
  | cons op rest =>
    have hc := readConfig_isSome (liesAt_drop 16 1 (op :: rest))
    rw [← hc, show num8 (op :: rest) 0 = op.toNat from rfl, List.drop_succ_cons, List.drop_zero, List.length_cons,
      readSlideControl]
    generalize op.toNat = n
    by_cases hn : n = 0
    · subst hn
      simp only [if_true]
      split <;> simp_all
    · rw [if_neg hn, if_neg hn]
      split
      · next hr =>
        subst hr
        split <;> simp_all; omega
      · next hr => simp [hr, hn]

/-! ### Buttons and Animations (R121, R122) -/

theorem finOf?_eq {n x : Nat} [NeZero n] {i : Fin n} (h : finOf? n x = some i) : i = Fin.ofNat n x := by
  unfold finOf? at h
  split at h
  · next hx => cases h; exact Fin.ext (Nat.mod_eq_of_lt hx).symm
  · cases h

/-- The placement index of a record that has been read. -/
theorem readButton_placement {placements : Nat} {r : List Byte} {x : Button} (h : readButton placements r = some x) :
    x.placement = (at8 r 0).toNat := by
  unfold readButton at h
  split at h
  · split at h
    · cases h; rfl
    · cases h
  · cases h

/-- The placement indexes of a button table that has been read. -/
theorem readButtons_placements {placements n : Nat} {b : List Byte} {l : List Button}
    (h : allSome ((records 31 n (b.drop 3)).map (readButton placements)) = some l) :
    l.map Button.placement = (List.range n).map fun j => num8 b (3 + 31 * j) := by
  have e := allSome_eq_some h
  rw [records_eq, List.map_map] at e
  have hlen : n = l.length := by simpa using congrArg List.length e
  refine List.ext_getElem (by simp [hlen]) fun j hj hn => ?_
  have hj' : j < l.length := by simpa using hj
  have hr : readButton placements ((b.drop (3 + 31 * j)).take 31) = some l[j] := by
    have ej := List.getElem_of_eq e (i := j) (by simpa [hlen] using hj')
    rwa [List.getElem_map, List.getElem_map, List.getElem_range] at ej
  simp only [List.getElem_map, List.getElem_range, readButton_placement hr,
    (liesAt_take_drop 31 _ b).byte (show 0 < 31 by decide), Nat.add_zero]

/-- The values of a function over the first numbers are distinct where no two of them are equal. -/
theorem nodup_map_range (f : Nat → Nat) (n : Nat) : ((List.range n).map f).Nodup ↔ ∀ j < n, ∀ i < j, f i ≠ f j := by
  rw [List.Nodup, List.pairwise_map, List.pairwise_iff_getElem]
  simp only [List.length_range, List.getElem_range]
  exact ⟨fun h j hj i hi => h i j (hi.trans hj) hj hi, fun h i j _ hj hi => h j hj i hi⟩

/-- The placements that a Buttons body is checked against: the pending definition's where there is one (R76, R121). -/
theorem placementCount_eq (e : Engine) (p : PageId) :
    e.placementCount p =
      if (e.page p).defined then some (((e.page p).waiting.map PendingDef.body).getD (e.page p).cur).placements.length
      else none := by
  rw [Engine.placementCount]
  cases (e.page p).waiting <;> rfl

theorem readButtons_isSome (s : State) (b : List Byte) :
    (readButtons s.engine.placementCount b).isSome = true ↔ ButtonsFits s b := by
  rw [ButtonsFits, ← readPageId_isSome, ← nodup_map_range fun j => num8 b (3 + 31 * j), num8_eq b 1, ← readFlag_isSome,
    readButtons, ← num8_eq b 2, ← num8_eq b 0]
  split
  · next h =>
    obtain ⟨-, hc, hlen⟩ := h
    cases hp : finOf? Config.numPages (num8 b 0) with
    | none => simp
    | some p =>
      rw [← finOf?_eq hp]
      cases readFlag (at8 b 1) with
      | none => simp
      | some f =>
        simp only [placementCount_eq]
        generalize ((s.engine.page p).waiting.map PendingDef.body).getD (s.engine.page p).cur = d
        rw [← allSome_records_isSome fun r o h => readButton_isSome h d.placements.length]
        cases (s.engine.page p).defined with
        | false => simp
        | true =>
          cases hl : allSome ((records 31 (num8 b 2) (b.drop 3)).map (readButton d.placements.length)) with
          | none => simp [hl]
          | some l => simp [hl, hc, hlen, readButtons_placements hl]
  · next h =>
    simp only [Option.isSome_none, Bool.false_eq_true, false_iff]
    rintro ⟨hlen, hc, -⟩
    exact h ⟨by omega, hc, hlen⟩

/-- Where the record after the one at an offset begins (11.7). -/
def afterRecord (b : List Byte) (o : Nat) : Nat := o + 2 + 3 * num8 b (o + 1)

theorem animationFrom_eq (b : List Byte) (m : Nat) : animationFrom b m = (afterRecord b)^[m] 3 := rfl

theorem le_iterate_afterRecord (b : List Byte) (n o : Nat) : o ≤ (afterRecord b)^[n] o := by
  induction n generalizing o with
  | zero => exact le_rfl
  | succ n ih => exact le_trans (by unfold afterRecord; omega) (ih (afterRecord b o))

theorem readAnimEntry_isSome {r b : List Byte} {o : Nat} (h : LiesAt 3 r b o) :
    (readAnimEntry r).isSome = true ↔ (num16 b o ≤ 511 ∨ num16 b o = 0xFFFF) ∧ num8 b (o + 2) ≠ 0 := by
  have h0 := h.half (i := 0) (by decide)
  have h2 := h.byte (i := 2) (by decide)
  rw [Nat.add_zero] at h0
  have hf : at16 r 0 = 0xFFFF ↔ (at16 r 0).toNat = 0xFFFF := BitVec.toNat_inj.symm
  simp only [← h0, ← h2, readAnimEntry, hf]
  split
  · simp_all
  · split
    · simp_all
    · simp_all [readObjId_isSome]

/-- The records from an offset on use the body up exactly, each with its checks (R122). -/
theorem readAnimRecords_isSome (b : List Byte) (n o : Nat) (ho : o ≤ b.length) :
    (readAnimRecords n (b.drop o)).isSome = true ↔
      b.length = (afterRecord b)^[n] o ∧ ∀ m < n, AnimationFits b ((afterRecord b)^[m] o) := by
  induction n generalizing o with
  | zero =>
    simp only [readAnimRecords, Function.iterate_zero, id, Nat.not_lt_zero, false_implies, implies_true, and_true]
    split <;> simp_all <;> omega
  | succ n ih =>
    have hl := liesAt_drop 2 o b
    have h0 := hl.byte (i := 0) (by decide)
    have h1 := hl.byte (i := 1) (by decide)
    have hm := readAnimMode_isSome (at8 (b.drop o) 0)
    rw [h0, Nat.add_zero] at hm
    have he := allSome_records_isSome (b := b) (fun r p h => readAnimEntry_isSome h) (num8 b (o + 1)) (o + 2)
    simp only [readAnimRecords, h1, List.drop_drop, List.length_drop]
    split
    · next h =>
      obtain ⟨hin, hc⟩ := h
      have hrest := ih (afterRecord b o) (by unfold afterRecord; omega)
      rw [Function.iterate_succ_apply, Nat.forall_lt_succ_left]
      simp only [Function.iterate_succ_apply, Function.iterate_zero, id]
      have hfit : AnimationFits b o ↔ (readAnimMode (at8 (b.drop o) 0)).isSome = true ∧
          (allSome ((records 3 (num8 b (o + 1)) (b.drop (o + 2))).map readAnimEntry)).isSome = true := by
        have hoff (j : Nat) : o + 2 + 3 * j + 2 = o + 4 + 3 * j := by omega
        simp only [AnimationFits, hm, he, hoff, hc, true_and]
      rw [and_left_comm, ← hrest, hfit, afterRecord, Nat.add_assoc]
      cases readAnimMode (at8 (b.drop o) 0) <;>
        cases allSome ((records 3 (num8 b (o + 1)) (b.drop (o + 2))).map readAnimEntry) <;> simp
    · next h =>
      simp only [Option.isSome_none, Bool.false_eq_true, false_iff]
      rintro ⟨hlen, hfit⟩
      have hle := le_iterate_afterRecord b n (afterRecord b o)
      obtain ⟨-, hc, hc', -⟩ := hfit 0 n.succ_pos
      rw [Function.iterate_succ_apply] at hlen
      exact h ⟨by unfold afterRecord at *; omega, hc, hc'⟩

theorem readAnimations_isSome (s : State) (b : List Byte) :
    (readAnimations (fun p => (s.engine.page p).defined) b).isSome = true ↔ AnimationsFits s b := by
  rw [AnimationsFits, ← readPageId_isSome, num8_eq b 1, ← readFlag_isSome, readAnimations, ← num8_eq b 2, ← num8_eq b 0]
  simp only [animationFrom_eq]
  split
  · next h =>
    obtain ⟨hlen, hc⟩ := h
    have hr := readAnimRecords_isSome b (num8 b 2) 3 hlen
    cases hp : finOf? Config.numPages (num8 b 0) with
    | none => simp
    | some p =>
      rw [← finOf?_eq hp]
      cases readFlag (at8 b 1) with
      | none => simp
      | some f =>
        cases hl : readAnimRecords (num8 b 2) (b.drop 3) with
        | none => simp_all
        | some l =>
          rw [hl] at hr
          obtain ⟨hall, hfit⟩ := hr.mp rfl
          simp only [← hall, hc, Option.isSome_some, true_and]
          cases (s.engine.page p).defined with
          | false => simp
          | true => simpa using hfit
  · next h =>
    have hle := le_iterate_afterRecord b (num8 b 2) 3
    simp only [Option.isSome_none, Bool.false_eq_true, false_iff]
    rintro ⟨hlen, hc, -⟩
    exact h ⟨by omega, hc⟩

end Sys2Proof.Machine
end

section
/-! PROOFS. A body that fails a check of its kind does nothing but raise MALFORMED, as a command and on the wire (R15). -/

namespace Sys2Proof.Machine

open Sys2Proof

theorem eq_none_of_isSome_iff {α : Type} {o : Option α} {P : Prop} (hr : o.isSome = true ↔ P) (h : ¬P) : o = none :=
  Option.not_isSome_iff_eq_none.mp (mt hr.mp h)

/-! ### No kind takes a body that fails its checks -/

section Taker

variable {b : List Byte} {s : State}

theorem takeScroll_malformed (h : ¬BodyFits s ⟨.scroll, b⟩) : takeScroll b s = malformed .scroll b s := by
  rw [takeScroll]
  cases hr : readScroll b with
  | none => rfl
  | some g =>
    obtain ⟨hlen, hp⟩ := (readScroll_isSome b).mp (by rw [hr]; rfl)
    have hg : g.page = Fin.ofNat 32 (num8 b 0) ∧ g.index = num8 b 1 := by
      rw [num8_eq, num8_eq]
      rw [readScroll, if_pos hlen] at hr
      obtain ⟨p, hf, rfl⟩ := Option.map_eq_some_iff.mp hr
      exact ⟨finOf?_eq hf, rfl⟩
    obtain ⟨hpage, hindex⟩ := hg
    refine if_neg fun hs => h ⟨hlen, hp, ?_⟩
    rwa [Engine.scrollable, hpage, hindex, Bool.and_eq_true, decide_eq_true_eq] at hs

theorem takeFlags_malformed (h : b.length ≠ 4) : takeFlags b s = malformed .flags b s := by
  rw [takeFlags, readFlags, if_neg h]

theorem takeClock_malformed (h : b.length ≠ 4) : takeClock b s = malformed .clock b s := by
  rw [takeClock, readClock, if_neg h]

end Taker

/-- A body that fails a check of its kind raises MALFORMED and does nothing else (R15). -/
theorem takeSegment_malformed {g : Segment} {s : State} (h : ¬BodyFits s g) :
    takeSegment g s = s.raise (.malformed g.kind.code g.body.length) := by
  obtain ⟨k, b⟩ := g
  cases k with
  | setOpen => simp only [takeSegment, takeSetOpen, eq_none_of_isSome_iff (readSetOpen_isSome b) h, malformed]
  | objectData => simp only [takeSegment, takeFragment, eq_none_of_isSome_iff (readFragment_isSome b) h, malformed]
  | objectDrop => simp only [takeSegment, takeDrop, eq_none_of_isSome_iff (readDrop_isSome b) h, malformed]
  | palette => simp only [takeSegment, takePalette, eq_none_of_isSome_iff (readPalette_isSome b) h, malformed]
  | page => simp only [takeSegment, takePage, eq_none_of_isSome_iff (readPage_isSome b) h, malformed]
  | buttons => simp only [takeSegment, takeButtons, eq_none_of_isSome_iff (readButtons_isSome s b) h, malformed]
  | animations =>
    simp only [takeSegment, takeAnimations, eq_none_of_isSome_iff (readAnimations_isSome s b) h, malformed]
  | scroll => exact takeScroll_malformed h
  | showPage => simp only [takeSegment, takeShow, eq_none_of_isSome_iff (readShow_isSome b) h, malformed]
  | slideList => simp only [takeSegment, takeSlideList, eq_none_of_isSome_iff (readSlideList_isSome b) h, malformed]
  | key => simp only [takeSegment, takeKey, eq_none_of_isSome_iff (readKey_isSome b) h, malformed]
  | flags => exact takeFlags_malformed h
  | clock => exact takeClock_malformed h
  | output => simp only [takeSegment, takeOutput, eq_none_of_isSome_iff (readOutput_isSome b) h, malformed]
  | slideControl =>
    simp only [takeSegment, takeSlideControl, eq_none_of_isSome_iff (readSlideControl_isSome b) h, malformed]
  | statusRequest => exact if_neg h
  | attentionMask => simp only [takeSegment, takeMask, eq_none_of_isSome_iff (readMask_isSome b) h, malformed]
  | restart => exact if_neg h

/-! ### Its arrival, as a command and on the wire -/

section Arrival

variable {g : Segment} {s : State}
  (ha : if g.kind.express = true then Accepts s g.body.length else TakesContent s g.body.length)
include ha

theorem accepts_of_arrival : Accepts s g.body.length := by
  split at ha
  · exact ha
  · exact ha.1

variable (hf : ¬BodyFits s g)
include hf

theorem present_malformed : present g s = (visited s g.body.length).raise (.malformed g.kind.code g.body.length) := by
  have hv : ¬BodyFits (visited s g.body.length) g := hf
  cases hx : g.kind.express with
  | true => rw [present_express hx (accepts_of_arrival ha), takeSegment_malformed hv]
  | false =>
    rw [if_neg (by rw [hx]; decide)] at ha
    have hb : (takeSegment g s).decoder.busy = false := by
      rw [takeSegment_malformed hf]
      exact ha.2.1
    rw [present_free hx ha, hb, takeSegment_malformed hv]
    rfl

theorem exec_malformed {c : Instr} (hg : segmentOf c = some g) :
    exec c s = .next ((visited s g.body.length).raise (.malformed g.kind.code g.body.length)) := by
  rw [exec_segmentOf hg, unlessHeld, (accepts_of_arrival ha).1, present_malformed ha hf]
  rfl

theorem strobe_malformed (hx : s.port.rx = .hunt)
    (ht : holdLevel s.port.segTotal s.port.byteTotal s.port.hold = s.port.hold) :
    strobe (wireBytes 0x01 g) s = .next ((visited s g.body.length).raise (.malformed g.kind.code g.body.length)) := by
  obtain ⟨hl, -, hlen, hb⟩ := accepts_of_arrival ha
  rw [Config.maxBody] at hlen
  rw [Config.maxQueueBytes] at hb
  rw [strobe_eq_feed hl, feed_wireBytes hx (by omega) ht (.inl rfl) (by omega), present_malformed ha hf]

end Arrival

/-! ### The bodies that a command spells -/

/-- The lengths of the express kinds of one length (R131, R117, R68, R99, R172, R171, R173). -/
theorem length_of_express_fits {c : Instr} {b : List Byte} {n : Nat} {g : Segment} {s : State}
    (hm : (c, n) ∈ [(Instr.key b, 3), (.flags b, 4), (.clock b, 4), (.output b, 4), (.statusRequest b, 0),
      (.attentionMask b, 1), (.restart b, 0)]) (hg : segmentOf c = some g) :
    g.kind.express = true ∧ g.body = b ∧ (BodyFits s g → b.length = n) := by
  simp only [List.mem_cons, List.not_mem_nil, or_false, Prod.mk.injEq] at hm
  rcases hm with ⟨rfl, rfl⟩ | ⟨rfl, rfl⟩ | ⟨rfl, rfl⟩ | ⟨rfl, rfl⟩ | ⟨rfl, rfl⟩ | ⟨rfl, rfl⟩ | ⟨rfl, rfl⟩ <;>
    obtain rfl := Option.some.inj hg <;> refine ⟨rfl, rfl, fun h => ?_⟩
  case inr.inl | inr.inr.inl => exact h
  case inr.inr.inr.inr.inl | inr.inr.inr.inr.inr.inr => exact congrArg List.length (h : b = [])
  all_goals exact h.1

/-- A Slide Control command is its operation byte and the rest, 16 bytes after CONFIGURE and none after the others
(R149). -/
theorem slideControl_fits {c : Instr} {r : List Byte} {n : Nat} {s : State}
    (hm : (c, n) ∈ [(Instr.configure r, 16), (.arm r, 0), (.disarm r, 0), (.slideStart r, 0), (.slideStop r, 0),
      (.slidePause r, 0), (.slideResume r, 0), (.slideNext r, 0), (.slidePrev r, 0)]) :
    ∃ op : Byte, segmentOf c = some ⟨.slideControl, op :: r⟩ ∧ (BodyFits s ⟨.slideControl, op :: r⟩ → r.length = n) := by
  simp only [List.mem_cons, List.not_mem_nil, or_false, Prod.mk.injEq] at hm
  rcases hm with ⟨rfl, rfl⟩ | ⟨rfl, rfl⟩ | ⟨rfl, rfl⟩ | ⟨rfl, rfl⟩ | ⟨rfl, rfl⟩ | ⟨rfl, rfl⟩ | ⟨rfl, rfl⟩ | ⟨rfl, rfl⟩ |
      ⟨rfl, rfl⟩ <;> exact ⟨_, rfl, fun h => Nat.succ.inj h.2.1⟩

theorem segmentOf_paletteCommand (mode : ApplyMode) (q : BitVec 4) (n : BitVec 9) (time : FrameCount) (e : List Byte) :
    segmentOf (paletteCommand mode q n time e) = some ⟨.palette, paletteBody mode q n time e⟩ := by
  cases mode <;> rfl

theorem paletteBody_length (mode : ApplyMode) (q : BitVec 4) (n : BitVec 9) (time : FrameCount) (e : List Byte) :
    (paletteBody mode q n time e).length = 6 + e.length := by
  rw [paletteBody_eq, List.length_append]; rfl

/-- The checks of a Palette body in the terms of its command (R57, 11.3). -/
theorem paletteBody_fits {mode : ApplyMode} {q : BitVec 4} {n : BitVec 9} {time : FrameCount} {e : List Byte} {s : State}
    (h : BodyFits s ⟨.palette, paletteBody mode q n time e⟩) :
    e.length = 5 * n.toNat ∧ n.toNat ≤ 256 ∧ q.toNat < 8 := by
  have hm := mode.code.isLt
  have hn := n.isLt
  have hq := q.isLt
  have h0 : num8 (paletteBody mode q n time e) 0 = 128 * (n.toNat / 256) + 16 * mode.code.toNat + q.toNat := by
    rw [paletteBody_eq]
    exact (BitVec.toNat_ofNat _ _).trans (Nat.mod_eq_of_lt (by omega))
  have h1 : num8 (paletteBody mode q n time e) 1 = n.toNat % 256 := by
    rw [paletteBody_eq]
    exact BitVec.toNat_ofNat _ _
  obtain ⟨hlen, hc, hid, -⟩ := h
  rw [paletteBody_length, h0, h1] at hlen
  rw [h0, h1] at hc
  rw [h0] at hid
  omega

/-- A Palette command whose body fails a check. -/
theorem exec_paletteCommand_malformed {mode : ApplyMode} {q : BitVec 4} {n : BitVec 9} {time : FrameCount} {e : List Byte}
    {s : State} (ha : TakesContent s (6 + e.length)) (hf : ¬BodyFits s ⟨.palette, paletteBody mode q n time e⟩) :
    exec (paletteCommand mode q n time e) s =
      .next ((visited s (6 + e.length)).raise (.malformed 0x13 (6 + e.length))) := by
  rw [← paletteBody_length mode q n time e] at ha ⊢
  exact exec_malformed (g := ⟨.palette, _⟩) ha hf (segmentOf_paletteCommand mode q n time e)

theorem fragmentBody_length (pos : Position) (id : Half) (r : List Byte) :
    (fragmentBody pos id r).length = 3 + r.length := by
  rw [fragmentBody_eq, List.length_cons, List.length_cons, List.length_cons]; omega

/-- A fragment's command whose body fails a check; the body is three bytes and the rest (11.4). -/
theorem exec_fragment_malformed {c : Instr} {pos : Position} {id : Half} {r : List Byte} {n : Nat} {s : State}
    (hg : segmentOf c = some ⟨.objectData, fragmentBody pos id r⟩) (hn : 3 + r.length = n) (ha : TakesContent s n)
    (hf : ¬BodyFits s ⟨.objectData, fragmentBody pos id r⟩) :
    exec c s = .next ((visited s n).raise (.malformed 0x11 n)) := by
  rw [← hn, ← fragmentBody_length pos id r] at ha ⊢
  exact exec_malformed (g := ⟨.objectData, _⟩) ha hf hg

theorem num16_fragmentBody (pos : Position) (id : Half) (r : List Byte) : num16 (fragmentBody pos id r) 0 = id.toNat := by
  have hi := id.isLt
  have h0 : num8 (fragmentBody pos id r) 0 = id.toNat / 256 := by
    rw [fragmentBody_eq]
    exact (BitVec.toNat_ofNat _ _).trans (Nat.mod_eq_of_lt (by omega))
  have h1 : num8 (fragmentBody pos id r) 1 = id.toNat % 256 := by
    rw [fragmentBody_eq]
    exact BitVec.toNat_ofNat _ _
  rw [num16, h0, h1]; omega

theorem fragmentBody_id {pos : Position} {id : Half} {r : List Byte} {s : State}
    (h : BodyFits s ⟨.objectData, fragmentBody pos id r⟩) : id.toNat < 512 := by
  obtain ⟨-, hid, -⟩ := h
  rw [num16_fragmentBody] at hid
  omega

/-- A FIRST or ONLY fragment holds a whole head, with its ranges (R39, 11.4). -/
theorem fragmentBody_head {pos : Position} (hp : pos = .first ∨ pos = .only) {id : Half} {r : List Byte} {s : State}
    (h : BodyFits s ⟨.objectData, fragmentBody pos id r⟩) :
    6 ≤ r.length ∧
      let b := fragmentBody pos id r
      1 ≤ num16 b 4 ∧ num16 b 4 ≤ 1920 ∧ 1 ≤ num16 b 6 ∧ num16 b 6 ≤ 1080 ∧ (num8 b 8 = 2 ∨ num8 b 8 = 4 ∨ num8 b 8 = 8) := by
  obtain ⟨-, -, -, hopen⟩ := h
  have hc : num8 (fragmentBody pos id r) 2 = 0 ∨ num8 (fragmentBody pos id r) 2 = 3 := by
    rcases hp with rfl | rfl
    · exact .inl rfl
    · exact .inr rfl
  obtain ⟨hlen, hrange⟩ := hopen hc
  rw [fragmentBody_length] at hlen
  exact ⟨by omega, hrange⟩

/-- The commands of the FIRST and ONLY fragments. -/
theorem segmentOf_opening {c : Instr} {id : Half} {r : List Byte}
    (hm : c ∈ [Instr.objectDataFirst id r, .objectDataOnly id r]) :
    ∃ pos : Position, (pos = .first ∨ pos = .only) ∧ segmentOf c = some ⟨.objectData, fragmentBody pos id r⟩ := by
  simp only [List.mem_cons, List.not_mem_nil, or_false] at hm
  rcases hm with rfl | rfl
  · exact ⟨.first, .inl rfl, rfl⟩
  · exact ⟨.only, .inr rfl, rfl⟩

/-- The commands of the four fragments. -/
theorem segmentOf_fragment {c : Instr} {id : Half} {r : List Byte}
    (hm : c ∈ [Instr.objectDataMiddle id r, .objectDataLast id r, .objectDataFirst id r, .objectDataOnly id r]) :
    ∃ pos : Position, segmentOf c = some ⟨.objectData, fragmentBody pos id r⟩ := by
  simp only [List.mem_cons, List.not_mem_nil, or_false] at hm
  rcases hm with rfl | rfl | rfl | rfl <;> exact ⟨_, rfl⟩

/-- A head beyond one of its ranges (R32, R39). -/
theorem not_fits_of_head {pos : Position} (hp : pos = .first ∨ pos = .only) {id : Half} {v w1 w0 h1 h0 d : Byte}
    {rest : List Byte} {s : State}
    (hr : (w1 ++ w0 : Half).toNat = 0 ∨ 1920 < (w1 ++ w0 : Half).toNat ∨ (h1 ++ h0 : Half).toNat = 0 ∨
      1080 < (h1 ++ h0 : Half).toNat ∨ (d.toNat ≠ 2 ∧ d.toNat ≠ 4 ∧ d.toNat ≠ 8)) :
    ¬BodyFits s ⟨.objectData, fragmentBody pos id (v :: w1 :: w0 :: h1 :: h0 :: d :: rest)⟩ := by
  intro h
  obtain ⟨-, hw1, hw2, hh1, hh2, hd⟩ := fragmentBody_head hp h
  rw [num16_eq, show at16 (fragmentBody pos id (v :: w1 :: w0 :: h1 :: h0 :: d :: rest)) 4 = (w1 ++ w0 : Half) from rfl]
    at hw1 hw2
  rw [num16_eq, show at16 (fragmentBody pos id (v :: w1 :: w0 :: h1 :: h0 :: d :: rest)) 6 = (h1 ++ h0 : Half) from rfl]
    at hh1 hh2
  rw [show num8 (fragmentBody pos id (v :: w1 :: w0 :: h1 :: h0 :: d :: rest)) 8 = d.toNat from rfl] at hd
  omega

/-- Settles O12: each reader takes a body exactly where the checks of its kind hold. -/
theorem malformedBodies : Obligations.MalformedBodies := by
  refine ⟨fun c g s hg ha hf => exec_malformed ha hf hg, fun g s ha hf hx ht => strobe_malformed ha hf hx ht,
    fun c b n s hm ha hn g hg => ?_, fun c r n s hm ha hn => ?_, fun mode q n time e s hr ha => ?_,
    fun id code rest v w1 w0 h1 h0 d s => ⟨fun hid ha c hm => ?_, fun hlen ha c hm => ?_, fun hr ha c hm => ?_⟩⟩
  · obtain ⟨hx, rfl, hfits⟩ := length_of_express_fits (s := s) hm hg
    exact exec_malformed (by rw [if_pos hx]; exact ha) (mt hfits hn) hg
  · obtain ⟨op, hg, hfits⟩ := slideControl_fits (s := s) hm
    exact exec_malformed (g := ⟨.slideControl, op :: r⟩) ha (mt hfits hn) hg
  · refine exec_paletteCommand_malformed ha fun hfits => ?_
    obtain ⟨hlen, hn, hq⟩ := paletteBody_fits hfits
    omega
  · obtain ⟨pos, hg⟩ := segmentOf_fragment hm
    exact exec_fragment_malformed hg rfl ha fun hfits => hid.not_gt (fragmentBody_id hfits)
  · obtain ⟨pos, hp, hg⟩ := segmentOf_opening hm
    exact exec_fragment_malformed hg rfl ha fun hfits => hlen.not_ge (fragmentBody_head hp hfits).1
  · obtain ⟨pos, hp, hg⟩ := segmentOf_opening hm
    exact exec_fragment_malformed hg (by simp only [List.length_cons]; omega) ha (not_fits_of_head hp hr)

end Sys2Proof.Machine
end

section
/-! PROOFS. The object side of the part: what no command but the object chapter's own touches, and the few operations
by which every command moves the decoder, the directory, the free list and object memory (chapters 2 and 3). -/

namespace Sys2Proof.Machine

open Sys2Proof

/-- The blocks that hold objects: the decoder, the object store and object memory. -/
structure Objects where
  decoder : Decoder
  store : Store
  mem : Memory

/-- The object blocks of a state. -/
def State.objects (s : State) : Objects := { decoder := s.decoder, store := s.store, mem := s.mem }

theorem objects_of_front {s t : State} (h : t.front = s.front) : t.objects = s.objects := by
  rw [State.objects, State.objects, decoder_of_front h, store_of_front h, mem_of_front h]

section Projections

variable {s t : State} (h : t.objects = s.objects)
include h

theorem decoder_of_objects : t.decoder = s.decoder := congrArg Objects.decoder h
theorem store_of_objects : t.store = s.store := congrArg Objects.store h
theorem mem_of_objects : t.mem = s.mem := congrArg Objects.mem h

end Projections

/-! ### The segment port holds no objects -/

@[simp] theorem setPort_objects (s : State) (p : Port) : (s.setPort p).objects = s.objects := rfl
@[simp] theorem raise_objects (s : State) (b : ReportBody) : (s.raise b).objects = s.objects := rfl
@[simp] theorem settleSkew_objects (s : State) : (settleSkew s).objects = s.objects := rfl
@[simp] theorem leaveHead_objects (s : State) : (leaveHead s).objects = s.objects := rfl

@[simp] theorem discardSegment_objects (s : State) : (discardSegment s).objects = s.objects := by
  rw [discardSegment_eq]; rfl

@[simp] theorem huntByte_objects (b : Byte) (s : State) : (huntByte b s).objects = s.objects := by
  unfold huntByte openReception; split_ifs <;> rfl

@[simp] theorem enterSkip_objects (h : Header) (n : Fin 3) (s : State) : (enterSkip h n s).objects = s.objects := by
  rw [enterSkip_eq]; rfl

@[simp] theorem afterDoubleFF_objects (b : Byte) (s : State) : (afterDoubleFF b s).objects = s.objects := by
  rw [afterDoubleFF, framingViolation_eq, markerInside_eq, discardSegment_eq, openReception_eq rfl]
  split_ifs <;> rfl

/-! ### What every command keeps -/

/-- A property of the object blocks that the operations of chapters 2 and 3 keep, but for the completion of a fragment:
content is taken while the decoder is free (R14). -/
structure Kept (P : State → Prop) : Prop where
  congr : ∀ {s t}, P s → t.objects = s.objects → P t
  fragment : ∀ body {s}, s.decoder.busy = false → P s → P (takeFragment body s)
  drop : ∀ k {s}, s.decoder.busy = false → P s → P (dropObject k s)
  setOpen : ∀ id popup {s}, P s → P (setOpen id popup s)
  reset : ∀ {s}, P s → P (resetBlocks s)
  frameStart : ∀ {s}, P s → P (s.setStore s.store.frameStart)
  frameEnd : ∀ live {s}, P s → P (s.setStore (s.store.frameEnd live))

theorem unlessHeld_keeps {P : State → Prop} {f : State → State} {s : State} (hf : P s → P (f s)) (h : P s) :
    P (unlessHeld f s) := by
  unfold unlessHeld
  split
  · exact h
  · exact hf h

namespace Kept

variable {P : State → Prop} (hP : Kept P)
include hP

/-- What leaves the object blocks alone keeps the property. -/
theorem of_front {s t : State} (hf : t.front = s.front) (h : P s) : P t := hP.congr h (objects_of_front hf)

/-- The owner of a segment keeps it, express at any time and content while the decoder is free. -/
theorem takeSegment {g : Segment} {s : State} (hg : g.kind.express = true ∨ s.decoder.busy = false) (h : P s) :
    P (takeSegment g s) := by
  by_cases hx : g.kind.express = true
  · obtain hf | hr := takeSegment_express hx s
    · exact hP.of_front hf h
    · rw [hr]; exact hP.congr (hP.reset h) rfl
  · have hb := hg.resolve_left hx
    obtain ⟨k, b⟩ := g
    cases k with
    | setOpen =>
      simp only [Machine.takeSegment, takeSetOpen]
      split
      · exact hP.of_front (malformed_front _ _ _) h
      · exact hP.setOpen _ _ h
    | objectData => exact hP.fragment b hb h
    | objectDrop =>
      simp only [Machine.takeSegment, takeDrop]
      split
      · exact hP.of_front (malformed_front _ _ _) h
      · exact hP.drop _ hb h
    | palette | page | buttons | animations | scroll | showPage | slideList =>
      exact hP.of_front (by simp [Machine.takeSegment]) h
    | _ => exact absurd rfl hx

/-- The taking of waiting content (R14). -/
theorem drainContent (n : Nat) {s : State} (h : P s) : P (drainContent n s) := by
  induction n generalizing s with
  | zero => exact h
  | succ n ih =>
    unfold Machine.drainContent
    split
    · exact h
    · next hb =>
      rw [Bool.not_eq_true] at hb
      split
      · exact h
      · next g rest _ =>
        split
        · dsimp only
          split
          · exact hP.fragment g.body hb h
          · exact ih (hP.congr (hP.fragment g.body hb h) (leaveHead_objects _))
        · exact ih (hP.takeSegment (.inr hb) (hP.congr h (leaveHead_objects s)))

theorem routeSegment (g : Segment) {s : State} (h : P s) : P (routeSegment g s) := by
  unfold Machine.routeSegment
  split
  · next hx => exact hP.takeSegment (.inl hx) (hP.congr h (setPort_objects _ _))
  · exact hP.drainContent _ (hP.congr h rfl)

theorem present (g : Segment) {s : State} (h : P s) : P (present g s) := by
  unfold Machine.present
  split
  · exact hP.congr h rfl
  · exact hP.routeSegment g (hP.congr h rfl)

theorem checkHeader (x : Header) (n : Fin 3) {s : State} (h : P s) : P (checkHeader x n s) := by
  unfold Machine.checkHeader
  split
  · exact hP.congr h (by simp)
  · split
    · exact hP.congr h (by simp)
    · split_ifs
      · exact hP.congr h (by simp)
      · exact hP.congr h (by simp)
      · exact hP.routeSegment _ (hP.congr h rfl)
      · exact hP.congr h rfl

theorem bodyByte (x : Header) (got : List Byte) (b : Byte) {s : State} (h : P s) : P (bodyByte x got b s) := by
  unfold Machine.bodyByte
  split
  · exact hP.congr h (by simp)
  · dsimp only
    split
    · exact hP.congr h rfl
    · split
      · exact hP.routeSegment _ (hP.congr h rfl)
      · exact hP.congr (hP.congr h rfl) (discardSegment_objects _)

/-- A byte at the segment port (1.1 to 1.4). -/
theorem receiveByte (b : Byte) {s : State} (h : P s) : P (receiveByte b s) := by
  have hd : P (afterDoubleFF b s) := hP.congr h (afterDoubleFF_objects b s)
  unfold Machine.receiveByte
  split
  · exact hP.congr h (huntByte_objects b s)
  · split
    · exact hd
    · unfold headerByte
      dsimp only
      split
      · exact hP.congr h rfl
      · exact hP.checkHeader _ _ h
  · split
    · exact hd
    · exact hP.bodyByte _ _ b h
  · split
    · exact hd
    · unfold skipByte
      split <;> exact hP.congr h rfl

/-- FRAGMENT_COMPLETE keeps what the fragment's own completion keeps (R14, R43). -/
theorem fragmentDone {s : State}
    (hc : ∀ l pos code, s.decoder = .decoding l pos code → P (completeFragment l pos code s)) (h : P s) : P (fragmentDone s) := by
  unfold Machine.fragmentDone
  split
  · next l pos code hd => exact hP.drainContent _ (hP.congr (hc l pos code hd) (leaveHead_objects _))
  all_goals exact h

theorem unlessHeld_of_front {f : State → State} {s : State} (hf : (f s).front = s.front) (h : P s) :
    P (Machine.unlessHeld f s) := unlessHeld_keeps (hP.of_front hf) h

/-- Every command but FRAGMENT_COMPLETE keeps it, and that one where the completion of the fragment in hand does. -/
theorem exec {s t : State} (c : Instr)
    (hc : c = .fragmentComplete → ∀ l pos code, s.decoder = .decoding l pos code → P (completeFragment l pos code s))
    (h : P s) (he : exec c s = .next t) : P t := by
  cases hg : segmentOf c with
  | some g =>
    obtain rfl := Host.Outcome.next.inj ((exec_segmentOf hg s).symm.trans he)
    exact unlessHeld_keeps (hP.present g) h
  | none =>
    cases c with
    | segmentByte b => cases he; exact unlessHeld_keeps (hP.receiveByte b) h
    | fragmentComplete => cases he; exact unlessHeld_keeps (hP.fragmentDone (hc rfl)) h
    | engineFrameStart => cases he; exact hP.unlessHeld_of_front (engineStart_front s) h
    | transitionEnd x => cases he; exact hP.unlessHeld_of_front (transitionDone_front x s) h
    | storeFrameStart => cases he; exact unlessHeld_keeps hP.frameStart h
    | paletteFrameStart => cases he; exact hP.unlessHeld_of_front (paletteStart_front s) h
    | mixerFrameStart => cases he; exact hP.unlessHeld_of_front rfl h
    | line l => cases he; exact hP.of_front (by split <;> simp) h
    | mixerFrameEnd => cases he; exact hP.unlessHeld_of_front (by simp [settleSkew]) h
    | storeFrameEnd =>
      cases he
      exact unlessHeld_keeps (fun h => hP.congr (hP.frameEnd s.engine.liveSet h) (settleSkew_objects _)) h
    | navFrameEnd => cases he; exact hP.unlessHeld_of_front (by simp [settleSkew]) h
    | activationExpiry x => cases he; exact hP.unlessHeld_of_front (activationDone_front x s) h
    | playheadStep x i => cases he; exact hP.unlessHeld_of_front (playheadDone_front x i s) h
    | sequencerFrameEnd => cases he; exact hP.unlessHeld_of_front (by simp [settleSkew]) h
    | dwellExpiry => cases he; exact hP.unlessHeld_of_front (dwellDone_front s) h
    | slideReady => cases he; exact hP.unlessHeld_of_front (readyDone_front s) h
    | lateSlide => cases he; exact hP.unlessHeld_of_front (lateDone_front s) h
    | timeTrigger => cases he; exact hP.unlessHeld_of_front (testTime_front s) h
    | readStrobe => cases he; exact hP.of_front (by split <;> simp) h
    | resetNAsserted => cases he; exact hP.congr (hP.reset h) rfl
    | resetNReleased =>
      cases he
      unfold releaseReset
      split
      · exact hP.congr (hP.reset h) rfl
      · exact h
    | _ => exact nomatch hg

/-- A step keeps what every command keeps. -/
theorem step {s t : State}
    (hc : ∀ {s} l pos code, s.decoder = .decoding l pos code → P s → P (completeFragment l pos code s)) (h : P s)
    (hs : step s = .next t) : P t := by
  unfold Machine.step at hs
  split at hs
  · cases hs; exact h
  · next c rest _ =>
    have h' : P { s with pending := rest } := hP.congr h rfl
    exact hP.exec c (fun _ l pos code hd => hc l pos code hd h') h' hs

end Kept

end Sys2Proof.Machine
end

section
/-! PROOFS. Who writes object memory, and where: the decoder alone, through the chain of the version being built (R19,
R21, R38). -/

namespace Sys2Proof.Machine

open Sys2Proof

/-! ### Writes through a chain -/

/-- Memory `m'` comes from memory `m` by writes at offsets of a chain. -/
inductive WritesThrough (chain : List Granule) (m : Memory) : Memory → Prop
  | none : WritesThrough chain m m
  | write {m' : Memory} (h : WritesThrough chain m m') (b : Nat) (x : Byte) :
      WritesThrough chain m (chainWrite m' chain b x)

theorem WritesThrough.trans {chain : List Granule} {m m' m'' : Memory} (h : WritesThrough chain m m')
    (h' : WritesThrough chain m' m'') : WritesThrough chain m m'' := by
  induction h' with
  | none => exact h
  | write _ b x ih => exact ih.write b x

/-- Such writes keep the canonical form. -/
theorem WritesThrough.wf {chain : List Granule} {m m' : Memory} (h : WritesThrough chain m m') (hm : m.wf) : m'.wf := by
  induction h with
  | none => exact hm
  | write _ b x ih => exact chainWrite_wf ih chain b x

/-- They leave every address outside the chain alone. -/
theorem WritesThrough.read {chain : List Granule} {m m' : Memory} (h : WritesThrough chain m m') {a : Nat}
    (ha : ∀ b, chainAddr chain b ≠ some a) : m'.read a = m.read a := by
  induction h with
  | none => rfl
  | write _ b x ih =>
    unfold chainWrite
    split
    · next a' hb =>
      have hne : a ≠ a' := fun e => ha b (by rw [hb, e])
      rw [Memory.read_write, if_neg hne, ih]
    · exact ih

theorem zeroBytes_through (chain : List Granule) (n off : Nat) (m : Memory) :
    WritesThrough chain m (zeroBytes chain n off m) := by
  induction n generalizing off m with
  | zero => exact .none
  | succ n ih => exact (WritesThrough.none.write off 0).trans (ih _ _)

theorem copyBytes_through (chain : List Granule) (n src dst : Nat) (m : Memory) :
    WritesThrough chain m (copyBytes chain n src dst m) := by
  induction n generalizing src dst m with
  | zero => exact .none
  | succ n ih => exact (WritesThrough.none.write dst _).trans (ih _ _ _)

/-! ### The codes write through the canvas's chain -/

/-- The canvas on which copies begin: a partly written row is first completed with a fault (R48). -/
def Canvas.rowClosed (c : Canvas) : Canvas := if c.load.col = 0 then c else c.fillRow.setFault

theorem copyCode_eq (n : Nat) (c : Canvas) :
    Canvas.copyCode n c =
      if c.rowClosed.load.height - c.rowClosed.load.row < n + 1 then
        (Canvas.copyRows (min (n + 1) (c.rowClosed.load.height - c.rowClosed.load.row)) c.rowClosed).setFault
      else Canvas.copyRows (min (n + 1) (c.rowClosed.load.height - c.rowClosed.load.row)) c.rowClosed := rfl

/-- The canvas on which a load closes: a pending code is dropped with a fault (R51). -/
def Canvas.codeDropped (c : Canvas) : Canvas := if c.load.code.isSome then (c.setCode none).setFault else c

theorem close_eq (c : Canvas) :
    c.close =
      if c.codeDropped.load.ended = false ∧ c.codeDropped.load.row < c.codeDropped.load.height then
        c.codeDropped.fillObject.setFault
      else c.codeDropped := rfl

/-- Canvas `c'` is canvas `c` after writes through its chain, which stands. -/
def Canvas.Draws (c c' : Canvas) : Prop := c'.chain = c.chain ∧ WritesThrough c.chain c.mem c'.mem

namespace Canvas.Draws

theorem trans {a b c : Canvas} (h : a.Draws b) (h' : b.Draws c) : a.Draws c :=
  ⟨h'.1.trans h.1, h.2.trans (h.1 ▸ h'.2)⟩

/-- A change of the load record and the fault flag. -/
theorem of_eq {c c' : Canvas} (hc : c'.chain = c.chain) (hm : c'.mem = c.mem) : c.Draws c' := ⟨hc, hm ▸ .none⟩

theorem refl (c : Canvas) : c.Draws c := of_eq rfl rfl

theorem poke (c : Canvas) (u v : Nat) (ix : Byte) : c.Draws (c.poke u v ix) := ⟨rfl, WritesThrough.none.write _ _⟩

theorem putPixel (ix : Byte) (c : Canvas) : c.Draws (c.putPixel ix) := by
  unfold Canvas.putPixel
  split
  · exact (poke c _ _ ix).trans (of_eq rfl rfl)
  · exact of_eq rfl rfl

theorem putRun (ix : Byte) (n : Nat) (c : Canvas) : c.Draws (Canvas.putRun ix n c) := by
  induction n generalizing c with
  | zero => exact refl c
  | succ n ih => exact (putPixel ix c).trans (ih _)

theorem closeRow (c : Canvas) : c.Draws c.closeRow := by
  refine ⟨rfl, ?_⟩
  show WritesThrough c.chain c.mem c.padRow.mem
  unfold Canvas.padRow
  dsimp only
  split
  · exact zeroBytes_through _ _ _ _
  · exact (WritesThrough.none.write _ _).trans (zeroBytes_through _ _ _ _)

theorem endRun (c : Canvas) : c.Draws c.endRun := by
  unfold Canvas.endRun
  split
  · exact closeRow c
  · exact refl c

theorem clearColumns (n u : Nat) (c : Canvas) : c.Draws (Canvas.clearColumns n u c) := by
  induction n generalizing u c with
  | zero => exact refl c
  | succ n ih => exact (poke c _ _ 0).trans (ih _ _)

theorem fillRow (c : Canvas) : c.Draws c.fillRow := (clearColumns _ _ c).trans (closeRow _)

theorem fillRows (n : Nat) (c : Canvas) : c.Draws (Canvas.fillRows n c) := by
  induction n generalizing c with
  | zero => exact refl c
  | succ n ih => exact (fillRow c).trans (ih _)

theorem fillObject (c : Canvas) : c.Draws c.fillObject := by
  unfold Canvas.fillObject
  dsimp only
  split
  · exact fillRows _ c
  · exact (fillRow c).trans (fillRows _ _)

theorem copyRow (c : Canvas) : c.Draws c.copyRow := by
  unfold Canvas.copyRow
  split
  · exact fillRow c
  · exact ⟨rfl, copyBytes_through _ _ _ _ _⟩

theorem copyRows (n : Nat) (c : Canvas) : c.Draws (Canvas.copyRows n c) := by
  induction n generalizing c with
  | zero => exact refl c
  | succ n ih => exact (copyRow c).trans (ih _)

theorem copyCode (n : Nat) (c : Canvas) : c.Draws (Canvas.copyCode n c) := by
  have htop : c.Draws c.rowClosed := by
    unfold Canvas.rowClosed
    split
    · exact refl c
    · exact (fillRow c).trans (of_eq rfl rfl)
  rw [copyCode_eq]
  split
  · exact (htop.trans (copyRows _ _)).trans (of_eq rfl rfl)
  · exact htop.trans (copyRows _ _)

theorem operandByte (p : PendingCode) (b : Byte) (c : Canvas) : c.Draws (c.operandByte p b) := by
  cases p with
  | literal left =>
    simp only [Canvas.operandByte]
    split
    · exact ((putPixel b c).trans (endRun _)).trans (of_eq rfl rfl)
    · exact (putPixel b c).trans (of_eq rfl rfl)
  | shortRepeat n => exact ((putRun b n c).trans (endRun _)).trans (of_eq rfl rfl)
  | longCount high => exact of_eq rfl rfl
  | longIndex n => exact ((putRun b n c).trans (endRun _)).trans (of_eq rfl rfl)
  | copyRows => exact (copyCode b.toNat c).trans (of_eq rfl rfl)

theorem codeByte {b : Byte} {c c' : Canvas} (h : c.codeByte b = some c') : c.Draws c' := by
  unfold Canvas.codeByte at h
  dsimp only at h
  split_ifs at h <;> cases h
  · exact of_eq rfl rfl
  · exact of_eq rfl rfl
  · exact of_eq rfl rfl
  · exact fillRow c
  · exact of_eq rfl rfl
  · exact (fillObject c).trans (of_eq rfl rfl)

theorem consume {b : Byte} {c c' : Canvas} (h : c.consume b = some c') : c.Draws c' := by
  unfold Canvas.consume at h
  split at h
  · cases h; exact of_eq rfl rfl
  · split at h
    · next p _ => cases h; exact operandByte p b c
    · split at h
      · cases h; unfold Canvas.afterLastRow; split <;> exact of_eq rfl rfl
      · exact codeByte h

theorem consumeAll (l : List Byte) (c : Canvas) : c.Draws (Canvas.consumeAll l c).canvas := by
  induction l generalizing c with
  | nil => exact refl c
  | cons b l ih =>
    unfold Canvas.consumeAll
    split
    · next c' h => exact (consume h).trans (ih c')
    · exact refl c

theorem close (c : Canvas) : c.Draws c.close := by
  have hdrop : c.Draws c.codeDropped := by
    unfold Canvas.codeDropped
    split
    · exact of_eq rfl rfl
    · exact refl c
  rw [close_eq]
  split
  · exact (hdrop.trans (fillObject _)).trans (of_eq rfl rfl)
  · exact hdrop

end Canvas.Draws

/-- The completion of a fragment writes through the chain of the version being built. -/
theorem completeFragment_through (l : Load) (pos : Position) (code : List Byte) (s : State) :
    WritesThrough (canvasOf l s).chain s.mem (completeFragment l pos code s).mem := by
  have hm : (canvasOf l s).mem = s.mem := by unfold canvasOf; split <;> rfl
  have hd := Canvas.Draws.consumeAll code (canvasOf l s)
  unfold completeFragment
  rw [← hm]
  cases hc : Canvas.consumeAll code (canvasOf l s) with
  | damaged c => rw [hc] at hd; exact hd.2
  | all c =>
    rw [hc] at hd
    cases pos with
    | first | middle => exact hd.2
    | last | only => exact (hd.trans (Canvas.Draws.close c)).2

/-! ### The commands -/

@[simp] theorem endHeldLoad_mem (k : ObjId) (s : State) : (endHeldLoad k s).mem = s.mem := by
  unfold endHeldLoad; split <;> rfl

theorem takeFragment_mem (b : List Byte) (s : State) : (takeFragment b s).mem = s.mem := by
  unfold takeFragment
  split
  · rfl
  · unfold requestLoad; split <;> simp
  · unfold joinLoad
    dsimp only
    split
    · split <;> rfl
    · split <;> rfl
    all_goals rfl

theorem dropObject_mem (k : ObjId) (s : State) : (dropObject k s).mem = s.mem := by
  unfold dropObject; dsimp only; split <;> rfl

theorem setOpen_mem (id : Half) (popup : Option PageId) (s : State) : (setOpen id popup s).mem = s.mem := by
  simp [setOpen]

theorem resetBlocks_mem (s : State) : (resetBlocks s).mem = s.mem := rfl

/-- No operation but the completion of a fragment changes object memory: what holds of its bytes is kept. -/
theorem mem_kept (Q : Memory → Prop) : Kept fun s => Q s.mem where
  congr h e := by rwa [mem_of_objects e]
  fragment b s _ h := by rwa [takeFragment_mem]
  drop k s _ h := by rwa [dropObject_mem]
  setOpen id p s h := by rwa [setOpen_mem]
  reset {s} h := by rwa [resetBlocks_mem]
  frameStart {s} h := by rwa [State.setStore_mem]
  frameEnd live s h := by rwa [State.setStore_mem]

/-- Only FRAGMENT_COMPLETE changes object memory. -/
theorem exec_mem {c : Instr} {s t : State} (hc : c ≠ .fragmentComplete) (he : exec c s = .next t) : t.mem = s.mem :=
  (mem_kept (· = s.mem)).exec c (fun h => absurd h hc) rfl he

/-- FRAGMENT_COMPLETE changes what the completion of the fragment in hand changes: the content that is taken after it
writes nothing. -/
theorem fragmentDone_mem {l : Load} {pos : Position} {code : List Byte} {s : State}
    (hd : s.decoder = .decoding l pos code) :
    (fragmentDone s).mem = (completeFragment l pos code s).mem := by
  unfold fragmentDone
  rw [hd]
  exact (mem_kept (· = (completeFragment l pos code s).mem)).drainContent _ rfl

/-- FRAGMENT_COMPLETE writes through the chain of the version being built; without a fragment in hand it writes nothing. -/
theorem exec_fragmentComplete_through {s t : State} (he : exec .fragmentComplete s = .next t) :
    t.mem = s.mem ∨
      ∃ l pos code, s.decoder = .decoding l pos code ∧ WritesThrough (canvasOf l s).chain s.mem t.mem := by
  obtain rfl : unlessHeld fragmentDone s = t := Host.Outcome.next.inj he
  cases hd : s.decoder with
  | decoding l pos code =>
    unfold unlessHeld
    split
    · exact .inl rfl
    · exact .inr ⟨l, pos, code, rfl, fragmentDone_mem hd ▸ completeFragment_through l pos code s⟩
  | _ => left; unfold unlessHeld fragmentDone; rw [hd]; split <;> rfl

/-- Settles O25: the address lies outside the chain that the decoder writes through. -/
theorem onlyTheDecoderWritesMemory : Obligations.OnlyTheDecoderWritesMemory := by
  intro c s t he
  refine ⟨fun hc => exec_mem hc he, fun hc a ha => ?_⟩
  subst hc
  obtain h | ⟨l, pos, code, hd, hw⟩ := exec_fragmentComplete_through he
  · rw [h]
  · refine hw.read fun b => ?_
    have hl : s.decoder.load? = some l := by rw [hd]; rfl
    unfold canvasOf
    split
    · next i hi => exact ha l i hl hi b
    · simp [chainAddr]

/-- Settles O24: the decoder's writes keep the form, and nothing else writes. -/
theorem memoryFormKept : Obligations.MemoryFormKept := fun _ _ h hs =>
  (mem_kept Memory.wf).step (fun l pos code _ hw => (completeFragment_through l pos code _).wf hw) h hs

end Sys2Proof.Machine
end

section
/-! PROOFS. Every step keeps the laws of the object store: the free list, the size of every chain, and the one load in
progress (R19, R20, R22, 2.3). -/

namespace Sys2Proof.Machine

open Sys2Proof

/-! ### The granules of a slot -/

/-- The granules of both chains of a slot. -/
def Slot.chains (x : Slot) : List Granule := x.currentChain ++ x.incomingChain

/-- Both versions of a slot have the granules that their sizes need (R22). -/
def Slot.Sized (x : Slot) : Prop := (∀ v, x.current = some v → v.Sized) ∧ ∀ v, x.incoming = some v → v.Sized

/-- The granules of slot `k`, apart from those of all the others. -/
theorem tableJoin_set_perm {α β : Type} {n : Nat} (f : α → List β) (v : Vector α n) (k : Fin n) :
    ∃ others, ∀ x, (tableJoin (fun _ x => f x) (v.set k.val x k.isLt)).Perm (f x ++ others) := by
  obtain ⟨l₁, l₂, hl⟩ := List.append_of_mem (List.mem_finRange k)
  have hn : (l₁ ++ k :: l₂).Nodup := hl ▸ List.nodup_finRange n
  obtain ⟨_, hn₂, hd⟩ := List.nodup_append'.mp hn
  have hk₁ : ∀ i ∈ l₁, i ≠ k := fun i hi e => hd hi (e ▸ List.mem_cons_self)
  have hk₂ : ∀ i ∈ l₂, i ≠ k := fun i hi e => (List.nodup_cons.mp hn₂).1 (e ▸ hi)
  have hset (x : α) {l : List (Fin n)} (h : ∀ i ∈ l, i ≠ k) :
      (l.flatMap fun i => f (v.set k.val x k.isLt)[i]) = l.flatMap fun i => f v[i] :=
    List.flatMap_congr fun i hi => by
      have : k.val ≠ i.val := fun e => h i hi (Fin.ext e.symm)
      simp [Vector.getElem_set_ne, this]
  refine ⟨(l₁.flatMap fun i => f v[i]) ++ l₂.flatMap fun i => f v[i], fun x => ?_⟩
  rw [tableJoin_eq, hl, List.flatMap_append, List.flatMap_cons, hset x hk₁, hset x hk₂]
  simpa using List.perm_append_comm_assoc _ (f x) _

/-- One slot changes and granules move between its chains and the free list. -/
theorem Store.granules_set {st : Store} {k : ObjId} {x : Slot} {free : List Granule}
    (h : (free ++ x.chains).Perm (st.free ++ (st.slot k).chains)) :
    Store.granules { slots := st.slots.set k.val x k.isLt, free := free } |>.Perm st.granules := by
  obtain ⟨others, ho⟩ := tableJoin_set_perm Slot.chains st.slots k
  have hself : st.slots.set k.val (st.slot k) k.isLt = st.slots := Vector.set_getElem_self _
  have hold := ho (st.slot k)
  rw [hself] at hold
  calc free ++ tableJoin (fun _ x => x.chains) (st.slots.set k.val x k.isLt)
      |>.Perm (free ++ (x.chains ++ others)) := (ho x).append_left free
    _ |>.Perm ((st.free ++ (st.slot k).chains) ++ others) := by rw [← List.append_assoc]; exact h.append_right others
    _ |>.Perm (st.free ++ tableJoin (fun _ x => x.chains) st.slots) := by
      rw [List.append_assoc]; exact hold.symm.append_left st.free

/-- Every slot changes and gives granules to the free list. -/
theorem Store.granules_map {st : Store} {f : ObjId → Slot → Slot} {r : ObjId → Slot → List Granule}
    (h : ∀ k x, (r k x ++ (f k x).chains).Perm x.chains) :
    Store.granules { slots := tableMap f st.slots, free := st.free ++ tableJoin r st.slots } |>.Perm st.granules := by
  have hjoin : (tableJoin r st.slots ++ tableJoin (fun _ x => x.chains) (tableMap f st.slots)).Perm
      (tableJoin (fun _ x => x.chains) st.slots) := by
    simp only [tableJoin_eq, tableMap_get]
    exact (List.flatMap_append_perm _ _ _).trans (List.Perm.flatMap_left _ fun k _ => h k _)
  show ((st.free ++ tableJoin r st.slots) ++ tableJoin (fun _ x => x.chains) (tableMap f st.slots)).Perm _
  rw [List.append_assoc]
  exact hjoin.append_left st.free

/-! ### The laws of the store by itself -/

/-- The law of the free list and the size of every chain (R19, R20, R22). -/
structure Store.Lawful (st : Store) : Prop where
  law : st.granules.Perm (List.finRange Config.numGranules)
  sized : ∀ k, (st.slot k).Sized

/-- A slot moves, and what it gives up goes to the tail of the free list. -/
theorem Store.Lawful.move {st : Store} (h : st.Lawful) {k : ObjId} {x : Slot} {r : List Granule}
    (hr : (r ++ x.chains).Perm (st.slot k).chains) (hx : x.Sized) : ((st.setSlot k x).release r).Lawful where
  law := (granules_set (by rw [List.append_assoc]; exact hr.append_left st.free)).trans h.law
  sized j := by
    rw [release_slot, setSlot_slot]
    split
    · exact hx
    · exact h.sized j

/-- A slot moves and keeps its chains. -/
theorem Store.Lawful.set {st : Store} (h : st.Lawful) {k : ObjId} {x : Slot} (hr : x.chains = (st.slot k).chains)
    (hx : x.Sized) : (st.setSlot k x).Lawful := by
  have hm := h.move (k := k) (x := x) (r := []) (by rw [List.nil_append, hr]) hx
  rwa [Store.release, List.append_nil] at hm

/-- Every slot moves. -/
theorem Store.Lawful.map {st : Store} (h : st.Lawful) {f : ObjId → Slot → Slot} {r : ObjId → Slot → List Granule}
    (hr : ∀ k x, (r k x ++ (f k x).chains).Perm x.chains) (hx : ∀ k x, x.Sized → (f k x).Sized) :
    Store.Lawful { slots := tableMap f st.slots, free := st.free ++ tableJoin r st.slots } where
  law := (granules_map hr).trans h.law
  sized k := by
    show ((tableMap f st.slots)[k]).Sized
    rw [tableMap_get]
    exact hx k _ (h.sized k)

section Slots

variable {x : Slot} (h : x.Sized)
include h

theorem Slot.Sized.drop : x.drop.Sized := by cases x <;> simp_all [Slot.Sized, Slot.drop, Slot.current, Slot.incoming]

theorem Slot.Sized.abandon : x.abandon.Sized := by
  cases x <;> simp_all [Slot.Sized, Slot.abandon, Slot.current, Slot.incoming]

theorem Slot.Sized.swap : x.swap.Sized := by cases x <;> simp_all [Slot.Sized, Slot.swap, Slot.current, Slot.incoming]

theorem Slot.Sized.complete : x.complete.Sized := by
  cases x <;> simp_all [Slot.Sized, Slot.complete, Slot.current, Slot.incoming]

theorem Slot.Sized.setFault (f : Bool) : (x.setFault f).Sized := by
  cases x <;> simp_all [Slot.Sized, Slot.setFault, Slot.current, Slot.incoming, Version.Sized]

theorem Slot.Sized.expire (live : List ObjId) (k : ObjId) : (x.expire live k).Sized := by
  cases x with
  | dropping c => unfold Slot.expire; dsimp only; split; exacts [h, by simp [Slot.Sized, Slot.current, Slot.incoming]]
  | _ => exact h

theorem Slot.Sized.reserve {i : Version} (hi : i.Sized) : (x.reserve i).Sized := by
  cases x <;> simp_all [Slot.Sized, Slot.reserve, Slot.current, Slot.incoming]

end Slots

section Chains

variable (x : Slot)

/-- A drop gives up the incoming chain (R32, R35). -/
theorem Slot.drop_chains : (x.incomingChain ++ x.drop.chains).Perm x.chains := by
  cases x <;> simp [Slot.chains, Slot.currentChain, Slot.incomingChain, Slot.drop, Slot.current, Slot.incoming,
    List.perm_append_comm]

/-- An abandonment gives up the chain of the version being built (R30). -/
theorem Slot.abandon_chains : (x.buildingChain ++ x.abandon.chains).Perm x.chains := by
  cases x <;> simp [Slot.chains, Slot.currentChain, Slot.incomingChain, Slot.abandon, Slot.buildingChain, Slot.current,
    Slot.incoming, List.perm_append_comm]

/-- A swap gives up the old current chain (R31). -/
theorem Slot.swap_chains : x.swapped ++ x.swap.chains = x.chains := by
  cases x <;> simp [Slot.chains, Slot.currentChain, Slot.incomingChain, Slot.swap, Slot.swapped, Slot.current,
    Slot.incoming]

/-- A release gives up the chain of a dropped object (R33). -/
theorem Slot.expire_chains (live : List ObjId) (k : ObjId) :
    x.expired live k ++ (x.expire live k).chains = x.chains := by
  cases x with
  | dropping c =>
    unfold Slot.expired Slot.expire
    dsimp only
    split <;> simp [Slot.chains, Slot.currentChain, Slot.incomingChain, Slot.current, Slot.incoming]
  | _ => rfl

/-- A load that completes keeps its chain (R29). -/
theorem Slot.complete_chains : x.complete.chains = x.chains := by cases x <;> rfl

theorem Slot.setFault_chains (f : Bool) : (x.setFault f).chains = x.chains := by cases x <;> rfl

/-- A reservation keeps the current chain (R26). -/
theorem Slot.reserve_chains (i : Version) : (x.reserve i).chains = x.currentChain ++ i.chain := by cases x <;> rfl

end Chains

/-- A reserved load takes its granules from the head of the free list (R25, R26). -/
theorem Store.Lawful.reserve {st : Store} (h : st.Lawful) {k : ObjId} {v : Byte} {w ht : Nat} {d : Depth}
    (hg : granulesNeeded w ht d ≤ st.free.length) : (st.reserve k v w ht d).Lawful := by
  have hi : (newVersion v w ht d (st.free.take (granulesNeeded w ht d))).Sized := by
    simp [Version.Sized, newVersion, hg]
  refine ⟨(granules_set ?_).trans h.law, fun j => ?_⟩
  · rw [Slot.reserve_chains, Slot.chains]
    generalize granulesNeeded w ht d = g
    calc (st.free.drop g ++ (st.slot k).incomingChain) ++ ((st.slot k).currentChain ++ st.free.take g)
        |>.Perm (((st.slot k).currentChain ++ st.free.take g) ++ (st.free.drop g ++ (st.slot k).incomingChain)) :=
          List.perm_append_comm
      _ = (st.slot k).currentChain ++ (st.free ++ (st.slot k).incomingChain) := by
          rw [List.append_assoc, ← List.append_assoc (st.free.take g), List.take_append_drop]
      _ |>.Perm (st.free ++ ((st.slot k).currentChain ++ (st.slot k).incomingChain)) :=
          List.perm_append_comm_assoc _ _ _
  · have hs := setSlot_slot st k j ((st.slot k).reserve (newVersion v w ht d (st.free.take (granulesNeeded w ht d))))
    show (Store.slot (st.setSlot k _) j).Sized
    rw [hs]
    split
    · exact (h.sized k).reserve hi
    · exact h.sized j

/-! ### The one load in progress -/

/-- No slot is being loaded. -/
def Store.Rests (st : Store) : Prop := ∀ k, (st.slot k).building = none

/-- The store builds the version of one load and no other (2.3). -/
structure Store.BuildsFor (st : Store) (l : Load) : Prop where
  builds : ∃ v, (st.slot l.id).building = some v ∧ l.Builds v
  others : ∀ k, k ≠ l.id → (st.slot k).building = none

theorem StoreInv.lawful {s : State} (h : StoreInv s) : s.store.Lawful :=
  ⟨h.law, fun k => ⟨h.sizedCurrent k, h.sizedIncoming k⟩⟩

/-- While the decoder holds no load nothing is being built. -/
theorem StoreInv.rests {s : State} (h : StoreInv s) (hd : s.decoder.load? = none) : s.store.Rests := fun k => by
  rw [Option.eq_none_iff_forall_ne_some]
  intro v hv
  obtain ⟨l, hl, -⟩ := h.built k v hv
  exact nomatch hd.symm.trans hl

/-- The decoder's load is what is being built. -/
theorem StoreInv.buildsFor {s : State} (h : StoreInv s) {l : Load} (hd : s.decoder.load? = some l) :
    s.store.BuildsFor l where
  builds := by
    obtain ⟨v, hv⟩ := Option.isSome_iff_exists.mp (h.held l hd)
    obtain ⟨l', hl', -, hb⟩ := h.built _ v hv
    obtain rfl := Option.some.inj (hd.symm.trans hl')
    exact ⟨v, hv, hb⟩
  others k hk := by
    rw [Option.eq_none_iff_forall_ne_some]
    intro v hv
    obtain ⟨l', hl', hid, -⟩ := h.built k v hv
    obtain rfl := Option.some.inj (hd.symm.trans hl')
    exact hk hid.symm

theorem StoreInv.of_rests {s : State} (hl : s.store.Lawful) (hd : s.decoder.load? = none) (hr : s.store.Rests) :
    StoreInv s where
  law := hl.law
  sizedCurrent k := (hl.sized k).1
  sizedIncoming k := (hl.sized k).2
  built k _ hv := nomatch (hr k).symm.trans hv
  held _ h := nomatch hd.symm.trans h

theorem StoreInv.of_buildsFor {s : State} {l : Load} (hl : s.store.Lawful) (hd : s.decoder.load? = some l)
    (hb : s.store.BuildsFor l) : StoreInv s where
  law := hl.law
  sizedCurrent k := (hl.sized k).1
  sizedIncoming k := (hl.sized k).2
  built k v hv := by
    obtain ⟨w, hw, hlw⟩ := hb.builds
    by_cases hk : k = l.id
    · subst hk
      obtain rfl := Option.some.inj (hw.symm.trans hv)
      exact ⟨l, hd, rfl, hlw⟩
    · exact nomatch (hb.others k hk).symm.trans hv
  held l' h' := by
    obtain ⟨w, hw, -⟩ := hb.builds
    obtain rfl := Option.some.inj (hd.symm.trans h')
    rw [hw]; rfl

/-- What is being built stands, and so does the decoder's load. -/
theorem StoreInv.of_building {s t : State} (h : StoreInv s) (hl : t.store.Lawful)
    (hd : t.decoder.load? = s.decoder.load?) (hb : ∀ k, (t.store.slot k).building = (s.store.slot k).building) :
    StoreInv t := by
  cases ho : s.decoder.load? with
  | none => exact of_rests hl (hd.trans ho) fun k => (hb k).trans (h.rests ho k)
  | some l =>
    obtain ⟨⟨v, hv, hlv⟩, hk⟩ := h.buildsFor ho
    exact of_buildsFor hl (hd.trans ho) ⟨⟨v, (hb _).trans hv, hlv⟩, fun k hne => (hb k).trans (hk k hne)⟩

theorem StoreInv.congr {s t : State} (h : StoreInv s) (hs : t.store = s.store)
    (hd : t.decoder.load? = s.decoder.load?) : StoreInv t := h.of_building (hs ▸ h.lawful) hd fun k => by rw [hs]

/-- One slot ends its load, whatever it gives up; the others are not being loaded. -/
theorem Store.Rests.of_set {st : Store} {k : ObjId} {x : Slot} {r : List Granule} (hx : x.building = none)
    (ho : ∀ j, j ≠ k → (st.slot j).building = none) : ((st.setSlot k x).release r).Rests := fun j => by
  rw [release_slot, setSlot_slot]
  split
  · exact hx
  · next hj => exact ho j hj

/-! ### What each operation leaves in progress -/

section Building

variable (x : Slot)

@[simp] theorem Slot.drop_building : x.drop.building = none := by cases x <;> rfl
@[simp] theorem Slot.swap_building : x.swap.building = x.building := by cases x <;> rfl
@[simp] theorem Slot.reserve_building (i : Version) : (x.reserve i).building = some i := by cases x <;> rfl
@[simp] theorem Slot.abandon_building : x.abandon.building = none := by cases x <;> rfl
@[simp] theorem Slot.complete_building : x.complete.building = none := by cases x <;> rfl

@[simp] theorem Slot.setFault_building (f : Bool) :
    (x.setFault f).building = x.building.map fun i => { i with fault := f } := by cases x <;> rfl

@[simp] theorem Slot.expire_building (live : List ObjId) (k : ObjId) : (x.expire live k).building = x.building := by
  cases x with
  | dropping c => unfold Slot.expire; dsimp only; split <;> rfl
  | _ => rfl

end Building

/-! ### Fragments, drops and clears -/

theorem load?_of_free {d : Decoder} (hb : d.busy = false) (ha : ∀ l, d ≠ .await l) : d.load? = none := by
  cases d with
  | decoding l p c => cases hb
  | await l => exact absurd rfl (ha l)
  | _ => rfl

/-- A FIRST or ONLY leaves nothing in progress before its own load (R30, R41). -/
theorem endHeldLoad_rests {s : State} (h : StoreInv s) (hb : s.decoder.busy = false) (k : ObjId) :
    (endHeldLoad k s).store.Lawful ∧ (endHeldLoad k s).store.Rests := by
  unfold endHeldLoad
  split
  · next l hd =>
    have hl := h.buildsFor (l := l) (by rw [hd]; rfl)
    exact ⟨h.lawful.move (Slot.abandon_chains _) (h.lawful.sized l.id).abandon,
      .of_set (Slot.abandon_building _) hl.others⟩
  all_goals
    next hn => exact ⟨h.lawful, h.rests (load?_of_free hb fun l e => by simp_all)⟩

/-- The store reserves exactly where it has the space (R25). -/
theorem decide_reserved {st : Store} {k : ObjId} {v : Byte} {w h : Nat} {d : Depth}
    (hd : st.decide k v w h d = .reserved) : granulesNeeded w h d ≤ st.free.length := by
  unfold Store.decide at hd
  split_ifs at hd
  omega

/-- A load is requested while nothing is in progress (R25, R41). -/
theorem requestLoad_storeInv {s : State} (hl : s.store.Lawful) (hr : s.store.Rests) (k : ObjId) (only : Bool) (v : Byte)
    (w h : Nat) (d : Depth) (code : List Byte) : StoreInv (requestLoad k only v w h d code s) := by
  unfold requestLoad
  split
  · exact .of_rests hl rfl hr
  · exact .of_rests hl rfl hr
  · next hd =>
    have hslot (j : ObjId) : (s.store.reserve k v w h d).slot j =
        if j = k then (s.store.slot k).reserve (newVersion v w h d (s.store.free.take (granulesNeeded w h d)))
        else s.store.slot j := Store.setSlot_slot s.store k j _
    refine .of_buildsFor (l := newLoad k v w h d) (hl.reserve (decide_reserved hd)) rfl ⟨?_, fun j hj => ?_⟩
    · refine ⟨newVersion v w h d (s.store.free.take (granulesNeeded w h d)), ?_, rfl, rfl, rfl, rfl⟩
      exact (congrArg Slot.building (hslot k)).trans (by rw [if_pos rfl, Slot.reserve_building])
    · replace hj : j ≠ k := hj
      refine (congrArg Slot.building (hslot j)).trans ?_
      rw [if_neg hj]
      exact hr j

/-- The decoder takes a fragment (R41, R42). -/
theorem takeFragment_storeInv (body : List Byte) {s : State} (hb : s.decoder.busy = false) (h : StoreInv s) :
    StoreInv (takeFragment body s) := by
  unfold takeFragment
  split
  · exact h.congr rfl rfl
  · next k _ _ _ _ _ _ _ =>
    obtain ⟨hl, hr⟩ := endHeldLoad_rests h hb k
    exact requestLoad_storeInv hl hr _ _ _ _ _ _ _
  · unfold joinLoad
    dsimp only
    split
    · next l hd =>
      split
      · exact h.congr rfl (by rw [hd]; rfl)
      · exact h.congr rfl rfl
    · split
      · exact h
      · exact h.congr rfl rfl
    · exact h.congr rfl rfl
    · exact h

/-- An Object Drop, which comes while the decoder is free (R32, R52). -/
theorem dropObject_storeInv (k : ObjId) {s : State} (hb : s.decoder.busy = false) (h : StoreInv s) :
    StoreInv (dropObject k s) := by
  have hl : (s.store.drop k).Lawful := h.lawful.move (Slot.drop_chains _) (h.lawful.sized k).drop
  have hmoved : StoreInv ((s.setStore (s.store.drop k)).setDecoder (s.decoder.afterDrop k)) := by
    cases hd : s.decoder with
    | decoding l p c => rw [hd] at hb; cases hb
    | await l =>
      obtain ⟨⟨v, hv, hlv⟩, ho⟩ := h.buildsFor (l := l) (by rw [hd]; rfl)
      by_cases hk : l.id = k
      · subst hk
        exact .of_rests hl (by simp [Decoder.afterDrop, Decoder.load?]) (.of_set (Slot.drop_building _) ho)
      · refine .of_buildsFor (l := l) hl (by simp [Decoder.afterDrop, hk, Decoder.load?]) ⟨⟨v, ?_, hlv⟩, fun j hj => ?_⟩
        · simpa [Store.drop, hk] using hv
        · by_cases hjk : j = k
          · simp [Store.drop, hjk]
          · simpa [Store.drop, hjk] using ho j hj
    | idle => exact .of_rests hl rfl (.of_set (Slot.drop_building _) fun j _ => h.rests (by rw [hd]; rfl) j)
    | skipping j => exact .of_rests hl rfl (.of_set (Slot.drop_building _) fun j _ => h.rests (by rw [hd]; rfl) j)
  unfold dropObject
  dsimp only
  split
  · exact hmoved.congr rfl rfl
  · exact hmoved

/-- A Set Open ends whatever is in progress (R35, R52). -/
theorem setOpen_storeInv (id : Half) (popup : Option PageId) {s : State} (h : StoreInv s) :
    StoreInv (setOpen id popup s) := by
  have hs : (setOpen id popup s).store = s.store.setOpen := by simp [setOpen]
  have hd : (setOpen id popup s).decoder = .idle := by simp [setOpen, Decoder.setOpen]
  refine .of_rests ?_ (by rw [hd]; rfl) fun k => by rw [hs, Store.setOpen_slot, Slot.drop_building]
  rw [hs]
  exact h.lawful.map (fun _ x => x.drop_chains) fun _ _ hx => hx.drop

/-- A frame start (R31). -/
theorem frameStart_storeInv {s : State} (h : StoreInv s) : StoreInv (s.setStore s.store.frameStart) := by
  refine h.of_building ?_ (by rw [State.setStore_decoder]) fun k => by
    rw [State.setStore_store, Store.frameStart_slot, Slot.swap_building]
  rw [State.setStore_store]
  exact h.lawful.map (fun _ x => .of_eq x.swap_chains) fun _ _ hx => hx.swap

/-- A frame end (R33). -/
theorem frameEnd_storeInv (live : List ObjId) {s : State} (h : StoreInv s) :
    StoreInv (s.setStore (s.store.frameEnd live)) := by
  refine h.of_building ?_ (by rw [State.setStore_decoder]) fun k => by
    rw [State.setStore_store, Store.frameEnd_slot, Slot.expire_building]
  rw [State.setStore_store]
  exact h.lawful.map (fun k x => .of_eq (x.expire_chains live k)) fun k _ hx => hx.expire live k

theorem storeInv_kept : Kept StoreInv where
  congr h e := h.congr (store_of_objects e) (congrArg Decoder.load? (decoder_of_objects e))
  fragment body _ := takeFragment_storeInv body
  drop k _ := dropObject_storeInv k
  setOpen id popup _ := setOpen_storeInv id popup
  reset _ := reset_storeInv.congr rfl rfl
  frameStart := frameStart_storeInv
  frameEnd live _ := frameEnd_storeInv live

/-! ### The completion of a fragment -/

/-- No code byte changes what the load builds. -/
theorem builds_of_head {c d : Canvas} (h : c.head = d.head) {v : Version} (hb : d.load.Builds v) : c.load.Builds v := by
  simp only [Canvas.head, Prod.mk.injEq] at h
  obtain ⟨-, hv, hw, hh, hd, -⟩ := h
  obtain ⟨bv, bw, bh, bd⟩ := hb
  exact ⟨hv.trans bv, hw.trans bw, hh.trans bh, hd.trans bd⟩

theorem Slot.buildingChain_of_building {x : Slot} {i : Version} (h : x.building = some i) :
    x.buildingChain = i.chain := by
  obtain rfl | ⟨c, rfl⟩ := Slot.building_cases h <;> rfl

/-- The fragment in hand ends: its load goes on, is complete, or is abandoned (R29, R30, R43, R50). -/
theorem completeFragment_storeInv {s : State} {l : Load} (pos : Position) (code : List Byte)
    (hd : s.decoder.load? = some l) (h : StoreInv s) : StoreInv (completeFragment l pos code s) := by
  obtain ⟨⟨i, hi, hb⟩, ho⟩ := h.buildsFor hd
  have hhead := consumeAll_head code { load := l, chain := i.chain, mem := s.mem, fault := i.fault }
  unfold completeFragment
  rw [canvasOf_building hi]
  cases hc : Canvas.consumeAll code { load := l, chain := i.chain, mem := s.mem, fault := i.fault } with
  | damaged c =>
    rw [hc] at hhead
    obtain ⟨hid, hv⟩ := load_of_head (c := c) hhead
    dsimp only
    rw [damageLoad_eq hi hid hv]
    have hr := Slot.abandon_chains (s.store.slot l.id)
    rw [Slot.buildingChain_of_building hi] at hr
    exact .of_rests (h.lawful.move hr (h.lawful.sized l.id).abandon) rfl (.of_set (Slot.abandon_building _) ho)
  | all c =>
    rw [hc] at hhead
    have keeps : StoreInv (keepLoad c s) := by
      have hid : c.load.id = l.id := (load_of_head (c := c) hhead).1
      rw [keepLoad_eq hid]
      refine .of_buildsFor (l := c.load)
        (h.lawful.set (Slot.setFault_chains _ _) ((h.lawful.sized l.id).setFault _)) rfl ⟨?_, fun k hk => ?_⟩
      · exact ⟨{ i with fault := c.fault }, by simp [hid, hi], builds_of_head (c := c) hhead hb⟩
      · rw [hid] at hk
        simpa [hk] using ho k hk
    have finishes : StoreInv (finishLoad c.close s) := by
      obtain ⟨hid, hv⟩ := load_of_head ((close_head c).trans hhead)
      rw [finishLoad_eq hid hv]
      refine .of_rests (h.lawful.set ((Slot.complete_chains _).trans (Slot.setFault_chains _ _))
        ((h.lawful.sized l.id).setFault _).complete) rfl fun k => ?_
      by_cases hk : k = l.id
      · simp [hk]
      · simpa [hk] using ho k hk
    cases pos with
    | first | middle => exact keeps
    | last | only => exact finishes

/-- Settles O23: every operation of the object chapters keeps the laws. -/
theorem storeLawsKept : Obligations.StoreLawsKept := fun _ _ h hs =>
  storeInv_kept.step (fun l pos code hd h => completeFragment_storeInv pos code (by rw [hd]; rfl) h) h hs

end Sys2Proof.Machine
end

section
/-! PROOFS. Loads requested, drops, and the store at a frame start and end: the whole next state of each (2.3
to 2.5). -/

namespace Sys2Proof.Machine

open Sys2Proof

/-! ### A FIRST or ONLY (R39, R41) -/

section Opening

variable {k : ObjId} {only : Bool} {v : Byte} {w h : Nat} {d : Depth} {code : List Byte} {c : Instr} {s : State}

/-- The body of a FIRST or ONLY (11.4). -/
def openingBody (k : ObjId) (only : Bool) (v : Byte) (w h : Nat) (d : Depth) (code : List Byte) : List Byte :=
  fragmentBody (if only then .only else .first) (BitVec.ofNat 16 k.val) (openingRest v w h d code)

theorem openingBody_length : (openingBody k only v w h d code).length = 9 + code.length := by
  rw [openingBody, fragmentBody_length]
  simp only [openingRest, bytes16, List.length_cons, List.length_append, List.length_nil]
  omega

theorem segmentOf_openingCommand (only : Bool) (id : Half) (r : List Byte) :
    segmentOf ((if only then Instr.objectDataOnly else Instr.objectDataFirst) id r) =
      some ⟨.objectData, fragmentBody (if only then .only else .first) id r⟩ := by
  cases only <;> rfl

@[simp] theorem readDepth_bits (d : Depth) : readDepth (byteOf d.bits) = some d := by cases d <;> rfl

/-- A FIRST or ONLY is read as it is spelled, within the limits of R39. -/
theorem readFragment_openingBody (hw : 1 ≤ w ∧ w ≤ 1920) (hh : 1 ≤ h ∧ h ≤ 1080) :
    readFragment (openingBody k only v w h d code) = some (.opening k only v w h d code) := by
  obtain ⟨b, hb⟩ : ∃ b, openingBody k only v w h d code = b := ⟨_, rfl⟩
  have hlen : 9 ≤ b.length := by rw [← hb, openingBody_length]; omega
  have hk : (at16 b 0).toNat = k.val := by
    have := k.isLt
    rw [← num16_eq, ← hb, openingBody, num16_fragmentBody, BitVec.toNat_ofNat]
    simp only [Config.numObjects] at this
    omega
  have hid : finOf? Config.numObjects (at16 b 0).toNat = some k := by rw [hk, finOf?, dif_pos k.isLt]
  have hw' : (at16 b 4).toNat = w := by rw [← hb]; exact bytes16_toNat (by omega)
  have hh' : (at16 b 6).toNat = h := by rw [← hb]; exact bytes16_toNat (by omega)
  have hopen : readOpening k only b = some (.opening k only v w h d code) := by
    rw [readOpening, if_pos hlen]
    dsimp only
    rw [hw', hh', if_pos ⟨hw.1, hw.2, hh⟩, ← hb, show at8 (openingBody k only v w h d code) 8 = byteOf d.bits from rfl,
      readDepth_bits]
    rfl
  rw [hb, readFragment, if_pos (by omega), hid]
  dsimp only
  cases only with
  | false => rw [show (at8 b 2).toNat = 0 by rw [← hb]; rfl]; exact hopen
  | true => rw [show (at8 b 2).toNat = 3 by rw [← hb]; rfl]; exact hopen

/-- What a FIRST or ONLY does at a free decoder, but for the segment port: a load in AWAIT is ended, then the store is
asked (R41). -/
def openLoad (k : ObjId) (only : Bool) (v : Byte) (w h : Nat) (d : Depth) (code : List Byte) (s : State) : State :=
  requestLoad k only v w h d code (endHeldLoad k s)

/-- A FIRST or ONLY that is taken as it arrives; the fragment stays in the queue if the decoder goes on to decode it
(R14, R40). -/
theorem exec_opening (hc : segmentOf c = some ⟨.objectData, openingBody k only v w h d code⟩) (hw : 1 ≤ w ∧ w ≤ 1920)
    (hh : 1 ≤ h ∧ h ≤ 1080) (ht : TakesContent s (9 + code.length)) :
    exec c s = .next (if (openLoad k only v w h d code s).decoder.busy then
        (openLoad k only v w h d code s).setPort (joined s ⟨.objectData, openingBody k only v w h d code⟩).port
      else (openLoad k only v w h d code s).setPort (s.port.visit (9 + code.length))) := by
  have hx : Kind.express .objectData = false := rfl
  have htake : takeSegment ⟨.objectData, openingBody k only v w h d code⟩ s = openLoad k only v w h d code s := by
    show takeFragment _ s = _
    rw [takeFragment, readFragment_openingBody hw hh, openLoad]
  rw [← openingBody_length (k := k) (only := only) (v := v) (w := w) (h := h) (d := d)] at ht ⊢
  rw [exec_segmentOf hc, unlessHeld, ht.1.1, ← htake, ← takeSegment_setPort hx, ← takeSegment_setPort hx]
  exact congrArg _ (present_free (g := ⟨.objectData, openingBody k only v w h d code⟩) hx ht)

/-- Without a load in AWAIT there is none to end. -/
theorem endHeldLoad_of_none (ha : ∀ l, s.decoder ≠ .await l) : endHeldLoad k s = s := by
  unfold endHeldLoad
  split
  · next l hd => exact absurd hd (ha l)
  all_goals rfl

/-- A slot that is not READY at this version asks for a new load (R28). -/
theorem repeats_eq_false {x : Slot} (hv : ∀ i, x = .ready i → i.number ≠ v) : x.repeats v = false := by
  cases x with
  | ready i => simpa [Slot.repeats] using hv i rfl
  | _ => rfl

/-- What the request leaves does not depend on what the decoder was doing. -/
theorem requestLoad_setDecoder (x : Decoder) :
    requestLoad k only v w h d code (s.setDecoder x) = requestLoad k only v w h d code s := by
  unfold requestLoad
  rw [State.setDecoder_store]
  split <;> rfl

end Opening

/-- Settles O14. -/
theorem repeatedLoadIsSkipped : Obligations.RepeatedLoadIsSkipped := by
  intro k only v w h d code c s hw hw' hh hh' ht ha hs hv
  have hskip : openLoad k only v w h d code s = s.setDecoder (.skipping k) := by
    have hr : s.store.decide k v w h d = .skipped := by simp [Store.decide, hs, Slot.repeats, hv]
    rw [openLoad, endHeldLoad_of_none ha, requestLoad, hr]
  rw [exec_opening (segmentOf_openingCommand only _ _) ⟨hw, hw'⟩ ⟨hh, hh'⟩ ht, hskip]
  rfl

/-- Settles O15. -/
theorem loadWithoutSpaceIsRefused : Obligations.LoadWithoutSpaceIsRefused := by
  intro k only v w h d code s hw hw' hh hh' ht ha hv hfree
  have hfull : openLoad k only v w h d code s =
      (s.raise (.noSpace k (granulesNeeded w h d) s.store.free.length)).setDecoder (.skipping k) := by
    have hr : s.store.decide k v w h d = .noSpace (granulesNeeded w h d) s.store.free.length := by
      rw [Store.decide, repeats_eq_false hv, if_pos hfree]; rfl
    rw [openLoad, endHeldLoad_of_none ha, requestLoad, hr]
  rw [exec_opening (segmentOf_openingCommand only _ _) ⟨hw, hw'⟩ ⟨hh, hh'⟩ ht, hfull]
  rfl

/-- Settles O16. -/
theorem loadIsReserved : Obligations.LoadIsReserved := by
  intro k only v w h d code s hw hw' hh hh' ht ha hv hfree _ g inc moved body
  have hmoved : (s.store.slot k).reserve inc = moved.1 ∧ (s.store.slot k).incomingChain = moved.2 := by
    unfold moved
    cases s.store.slot k <;> exact ⟨rfl, rfl⟩
  have hopen : openLoad k only v w h d code s =
      (s.setStore (s.store.reserve k v w h d)).setDecoder
        (.decoding (newLoad k v w h d) (if only then .only else .first) code) := by
    have hr : s.store.decide k v w h d = .reserved := by
      rw [Store.decide, repeats_eq_false hv, if_neg (Nat.not_lt.mpr hfree)]; rfl
    rw [openLoad, endHeldLoad_of_none ha, requestLoad, hr]
  rw [exec_opening (segmentOf_openingCommand only _ _) ⟨hw, hw'⟩ ⟨hh, hh'⟩ ht, hopen, ← hmoved.1, ← hmoved.2]
  rfl

/-- Settles O17: both sides ask the store in the state that the abandoned load leaves. -/
theorem openingAbandonsHeldLoad : Obligations.OpeningAbandonsHeldLoad := by
  intro k only v w h d code l i s hw hw' hh hh' ht hd hi slot c
  have hslot : (s.store.slot l.id).abandon = slot := by
    unfold slot
    obtain e | ⟨c, e⟩ := Slot.building_cases hi <;> rw [e] <;> rfl
  have hended : { s with
      decoder := .idle
      store := { slots := s.store.slots.set l.id.val slot l.id.isLt, free := s.store.free ++ i.chain }
      report := s.report.enqueue s.engine.fc
        (.abandoned l.id l.version (if l.id = k then .superseded else .otherObject)) } =
      (endHeldLoad k s).setDecoder .idle := by
    rw [endHeldLoad, hd, ← hslot, ← Slot.buildingChain_of_building hi]; rfl
  have hport : ((endHeldLoad k s).setDecoder .idle).port = s.port := by rw [endHeldLoad, hd]; rfl
  have hlow : ((endHeldLoad k s).setDecoder .idle).resetLow = s.resetLow := by rw [endHeldLoad, hd]; rfl
  have hopen : openLoad k only v w h d code ((endHeldLoad k s).setDecoder .idle) = openLoad k only v w h d code s := by
    rw [openLoad, endHeldLoad_of_none (by simp), requestLoad_setDecoder, openLoad]
  have ht' : TakesContent ((endHeldLoad k s).setDecoder .idle) (9 + code.length) := by
    obtain ⟨⟨h1, h2, h3, h4⟩, -, hq⟩ := ht
    exact ⟨⟨by rw [hlow, h1], by rwa [hport], h3, by rwa [hport]⟩, rfl, by rwa [hport]⟩
  rw [hended, exec_opening (segmentOf_openingCommand only _ _) ⟨hw, hw'⟩ ⟨hh, hh'⟩ ht,
    exec_opening (segmentOf_openingCommand only _ _) ⟨hw, hw'⟩ ⟨hh, hh'⟩ ht', hopen, hport, joined, joined, hport]

/-! ### Object Drop (R32, R52) -/

theorem bytes16_length (n : Nat) : (bytes16 n).length = 2 := rfl

/-- A drop names its object (11.3). -/
theorem readDrop_bytes16 (k : ObjId) : readDrop (bytes16 k.val) = some k := by
  have hk : k.val < 512 := k.isLt
  have hn : (at16 (bytes16 k.val) 0).toNat = k.val := bytes16_toNat (by omega)
  rw [readDrop, if_pos (bytes16_length _), hn, finOf?, dif_pos k.isLt]

/-- A slot that a drop leaves as it was, with no chain to give up, leaves the store as it was. -/
theorem Store.drop_self {st : Store} {k : ObjId} (hd : (st.slot k).drop = st.slot k)
    (hc : (st.slot k).incomingChain = []) : st.drop k = st := by
  have hs : st.slots.set k.val (st.slot k) k.isLt = st.slots := Vector.set_getElem_self _
  rw [drop, hd, hc, setSlot, hs, release, List.append_nil]

/-- Settles O21, by the state of the slot. -/
theorem objectIsDropped : Obligations.ObjectIsDropped := by
  intro k s ht v put ended told
  have hended : s.decoder.afterDrop k = ended := by
    unfold ended Decoder.afterDrop; cases s.decoder <;> rfl
  have he : exec (.objectDrop (bytes16 k.val)) s = .next (dropObject k v) := by
    rw [exec_content_free (segmentOf_objectDrop _) rfl (by simp) ht]
    show Host.Outcome.next (takeDrop (bytes16 k.val) v) = _
    rw [takeDrop, readDrop_bytes16]
  have hdrop : s.store.drop k = put (s.store.slot k).drop (s.store.slot k).incomingChain := rfl
  rw [he, dropObject, show v.store = s.store from rfl, show v.decoder = s.decoder from rfl, hended]
  congr 1
  cases hs : s.store.slot k with
  | empty => rw [Store.drop_self (by rw [hs]; rfl) (by rw [hs]; rfl)]; rfl
  | dropping c => rw [Store.drop_self (by rw [hs]; rfl) (by rw [hs]; rfl)]; rfl
  | _ => rw [hdrop, hs]; rfl

/-! ### Frame start and frame end (R31, R33) -/

theorem setStore_eq (s : State) (x : Store) : s.setStore x = { s with store := (s.setStore x).store } := rfl

theorem settleSkew_setStore_eq (s : State) (x : Store) :
    settleSkew (s.setStore x) = { s with store := (settleSkew (s.setStore x)).store, skew := .level } := rfl

/-- Settles O22. -/
theorem storeFrames : Obligations.StoreFrames := by
  refine ⟨fun s hl => ⟨s.setStore s.store.frameStart, ?_, setStore_eq _ _, fun k => ?_, ?_⟩,
    fun s hl => ⟨settleSkew (s.setStore (s.store.frameEnd s.engine.liveSet)), ?_, settleSkew_setStore_eq _ _,
      fun k => ?_, ?_⟩⟩
  · show Host.Outcome.next (unlessHeld _ s) = _
    rw [unlessHeld, hl]; rfl
  · rw [State.setStore_store, Store.frameStart_slot]
    cases s.store.slot k <;> rfl
  · rw [State.setStore_store, Store.frameStart, tableJoin_eq]
    refine congrArg _ (List.flatMap_congr fun k _ => ?_)
    show (s.store.slot k).swapped = _
    cases s.store.slot k <;> rfl
  · show Host.Outcome.next (unlessHeld _ s) = _
    rw [unlessHeld, hl]; rfl
  · show ((s.store.frameEnd s.engine.liveSet).slot k) = _
    rw [Store.frameEnd_slot]
    cases s.store.slot k <;> rfl
  · show (s.store.frameEnd s.engine.liveSet).free = _
    rw [Store.frameEnd, tableJoin_eq]
    refine congrArg _ (List.flatMap_congr fun k _ => ?_)
    show (s.store.slot k).expired s.engine.liveSet k = _
    cases s.store.slot k <;> rfl

end Sys2Proof.Machine
end

section
/-! PROOFS. Pixels in bytes and bytes in chains: what a written index, a cleared byte and a copied byte leave of every
pixel slot of a version, padding included (R22, R38, R45). -/

namespace Sys2Proof.Machine

open Sys2Proof

/-! ### An index in its byte (R22, R104) -/

/-- The bits of the depth's mask. -/
theorem mask_getLsbD (d : Depth) (i : Nat) : d.mask.getLsbD i = decide (i < d.bits) := by
  by_cases hi : i < 8
  · cases d <;> interval_cases i <;> rfl
  · have hb : d.bits ≤ 8 := by cases d <;> decide
    rw [BitVec.getLsbD_of_ge _ _ (by omega), decide_eq_false (by omega)]

/-- A pixel lies whole within its byte. -/
theorem pixelShift_add_le (d : Depth) (u : Nat) : pixelShift d u + d.bits ≤ 8 := by
  unfold pixelShift; cases d <;> simp only [Depth.bits] <;> omega

/-- Two pixels of one byte do not overlap. -/
theorem pixelShift_disjoint {d : Depth} {x u : Nat} (h : x % (8 / d.bits) ≠ u % (8 / d.bits)) :
    pixelShift d x + d.bits ≤ pixelShift d u ∨ pixelShift d u + d.bits ≤ pixelShift d x := by
  unfold pixelShift; cases d <;> simp only [Depth.bits] at h ⊢ <;> omega

theorem indexIn_getLsbD (d : Depth) (x : Nat) (b : Byte) (i : Nat) :
    (indexIn d x b).getLsbD i = (b.getLsbD (pixelShift d x + i) && decide (i < d.bits)) := by
  rw [indexIn, BitVec.getLsbD_and, BitVec.getLsbD_ushiftRight, mask_getLsbD]

/-- The bits of a byte with one pixel's index replaced. -/
theorem withIndex_getLsbD (d : Depth) (u : Nat) (ix b : Byte) {j : Nat} (hj : j < 8) :
    (withIndex d u ix b).getLsbD j =
      if pixelShift d u ≤ j ∧ j < pixelShift d u + d.bits then ix.getLsbD (j - pixelShift d u) else b.getLsbD j := by
  simp only [withIndex, BitVec.getLsbD_or, BitVec.getLsbD_and, BitVec.getLsbD_not, BitVec.getLsbD_shiftLeft,
    mask_getLsbD, decide_eq_true hj, Bool.true_and]
  by_cases h1 : j < pixelShift d u
  · simp [h1, Nat.not_le.mpr h1]
  · by_cases h2 : j < pixelShift d u + d.bits
    · have h3 : j - pixelShift d u < d.bits := by omega
      simp [h1, h2, h3, Nat.not_lt.mp h1]
    · have h3 : ¬ j - pixelShift d u < d.bits := by omega
      simp [h1, h2, h3]

/-- An index written reads back reduced to the depth's low bits (R45). -/
theorem indexIn_withIndex_self (d : Depth) (u : Nat) (ix b : Byte) :
    indexIn d u (withIndex d u ix b) = ix &&& d.mask := by
  have hs := pixelShift_add_le d u
  refine BitVec.eq_of_getLsbD_eq fun i _ => ?_
  rw [indexIn_getLsbD, BitVec.getLsbD_and, mask_getLsbD]
  by_cases hi : i < d.bits
  · rw [withIndex_getLsbD _ _ _ _ (by omega), if_pos (by omega), Nat.add_sub_cancel_left]
  · simp [hi]

/-- The other pixels of the byte keep their indexes. -/
theorem indexIn_withIndex_other {d : Depth} {x u : Nat} (h : x % (8 / d.bits) ≠ u % (8 / d.bits)) (ix b : Byte) :
    indexIn d x (withIndex d u ix b) = indexIn d x b := by
  have hs := pixelShift_add_le d x
  have hd := pixelShift_disjoint h
  refine BitVec.eq_of_getLsbD_eq fun i _ => ?_
  rw [indexIn_getLsbD, indexIn_getLsbD]
  by_cases hi : i < d.bits
  · rw [withIndex_getLsbD _ _ _ _ (by omega), if_neg (by omega)]
  · simp [hi]

@[simp] theorem indexIn_zero (d : Depth) (x : Nat) : indexIn d x 0 = 0 := by simp [indexIn]

/-- The byte that holds the last pixel of a row of width w, its low bits cleared: the pixels before w keep their
indexes, those from w on are 0 (R22, R45). -/
theorem indexIn_keep (d : Depth) (w x : Nat) (b : Byte) :
    indexIn d x (b &&& ~~~((255 : Byte) >>> (w * d.bits % 8))) =
      if x % (8 / d.bits) < w % (8 / d.bits) then indexIn d x b else 0 := by
  have h255 (j : Nat) : (255 : Byte).getLsbD j = decide (j < 8) := mask_getLsbD .d8 j
  have hm : w * d.bits % 8 = d.bits * (w % (8 / d.bits)) := by cases d <;> simp only [Depth.bits] <;> omega
  have hx : pixelShift d x = 8 - d.bits * (x % (8 / d.bits) + 1) := rfl
  have hs := pixelShift_add_le d x
  rw [hm]
  refine BitVec.eq_of_getLsbD_eq fun i _ => ?_
  rw [apply_ite (fun y : Byte => y.getLsbD i), indexIn_getLsbD, indexIn_getLsbD, BitVec.getLsbD_and, BitVec.getLsbD_not,
    BitVec.getLsbD_ushiftRight, h255]
  by_cases hi : i < d.bits
  · have hkeep : x % (8 / d.bits) < w % (8 / d.bits) ↔ ¬ d.bits * (w % (8 / d.bits)) + (pixelShift d x + i) < 8 := by
      rw [hx]; cases d <;> simp only [Depth.bits] at hi ⊢ <;> omega
    have h8 : pixelShift d x + i < 8 := by omega
    by_cases hk : x % (8 / d.bits) < w % (8 / d.bits)
    · simp [hi, h8, hk, hkeep.mp hk]
    · simp [hk, not_not.mp (mt hkeep.mpr hk)]
  · simp [hi]

/-! ### Bytes through a chain -/

/-- Every offset below the object's size lies in the chain (R21, R22). -/
theorem chainAddr_isSome {chain : List Granule} {b : Nat} (h : b < chain.length * Config.granuleBytes) :
    (chainAddr chain b).isSome = true := by
  have hlt : b / Config.granuleBytes < chain.length := Nat.div_lt_of_lt_mul (by rwa [Nat.mul_comm])
  rw [chainAddr, Option.isSome_map, List.getElem?_eq_getElem hlt]; rfl

section Chain

variable {chain : List Granule} (hn : chain.Nodup)
include hn

/-- Bytes cleared, byte by byte. -/
theorem chainRead_zeroBytes {n off : Nat} {m : Memory} (h : off + n ≤ chain.length * Config.granuleBytes) (b : Nat) :
    chainRead (zeroBytes chain n off m) chain b = if off ≤ b ∧ b < off + n then 0 else chainRead m chain b := by
  induction n generalizing off m with
  | zero => rw [zeroBytes, if_neg (by omega)]
  | succ n ih =>
    rw [zeroBytes, ih (by omega), chainRead_chainWrite hn (chainAddr_isSome (by omega)), ← ite_or]
    exact if_congr (by omega) rfl rfl

/-- Bytes copied to a place that does not begin before their own end, byte by byte. -/
theorem chainRead_copyBytes {n src dst : Nat} {m : Memory} (h : dst + n ≤ chain.length * Config.granuleBytes)
    (ho : src + n ≤ dst) (b : Nat) :
    chainRead (copyBytes chain n src dst m) chain b =
      if dst ≤ b ∧ b < dst + n then chainRead m chain (src + (b - dst)) else chainRead m chain b := by
  induction n generalizing src dst m with
  | zero => rw [copyBytes, if_neg (by omega)]
  | succ n ih =>
    have hw := chainRead_chainWrite hn (m := m) (chainAddr_isSome (b := dst) (chain := chain) (by omega))
    rw [copyBytes, ih (by omega) (by omega)]
    by_cases hr : dst + 1 ≤ b ∧ b < dst + 1 + n
    · rw [if_pos hr, hw, if_neg (by omega), if_pos (by omega)]
      congr 1; omega
    · rw [if_neg hr, hw]
      by_cases hb : b = dst
      · subst hb
        rw [if_pos rfl, if_pos (by omega), Nat.sub_self, Nat.add_zero]
      · rw [if_neg hb, if_neg (by omega)]

end Chain

/-! ### The pixel slots of a version (R22) -/

/-- Pixel slots in a row: those from the width on are padding. -/
def Canvas.slots (c : Canvas) : Nat := c.stride * 8 / c.load.depth.bits

/-- The index in slot x of row y. -/
def Canvas.slot (c : Canvas) (x y : Nat) : Byte :=
  indexIn c.load.depth x (chainRead c.mem c.chain (pixelOffset c.load.width c.load.depth x y))

/-- The chain holds no granule twice and has the granules that the size needs (R20, R22). -/
def Canvas.Whole (c : Canvas) : Prop :=
  c.chain.Nodup ∧ c.chain.length = granulesNeeded c.load.width c.load.height c.load.depth

/-- The head of the load and the chain say where a slot lies. -/
theorem whole_of_head {c c' : Canvas} (h : c'.head = c.head) (hc : c.Whole) : c'.Whole := by
  simp only [Canvas.head, Prod.mk.injEq] at h
  obtain ⟨-, -, hw, hh, hd, hch⟩ := h
  rwa [Canvas.Whole, hw, hh, hd, hch]

theorem slots_of_head {c c' : Canvas} (h : c'.head = c.head) : c'.slots = c.slots := by
  simp only [Canvas.head, Prod.mk.injEq] at h
  obtain ⟨-, -, hw, -, hd, -⟩ := h
  rw [Canvas.slots, Canvas.slots, Canvas.stride, Canvas.stride, hw, hd]

/-- The width's pixels and the padding fill the stride. -/
theorem width_le_slots (c : Canvas) : c.load.width ≤ c.slots := by
  unfold Canvas.slots Canvas.stride strideOf
  cases c.load.depth <;> simp only [Depth.bits] <;> omega

/-- A slot's byte lies in its row. -/
theorem slotByte_lt {c : Canvas} {x : Nat} (hx : x < c.slots) : x * c.load.depth.bits / 8 < c.stride := by
  unfold Canvas.slots at hx
  cases hd : c.load.depth <;> rw [hd] at hx <;> simp only [Depth.bits] at hx ⊢ <;> omega

theorem pixelOffset_eq (c : Canvas) (x y : Nat) :
    pixelOffset c.load.width c.load.depth x y = y * c.stride + x * c.load.depth.bits / 8 := rfl

/-- Every byte of every row lies in the chain. -/
theorem rows_le_chain {c : Canvas} (hc : c.Whole) {y q : Nat} (hy : y < c.load.height) (hq : q ≤ c.stride) :
    y * c.stride + q ≤ c.chain.length * Config.granuleBytes := by
  have hrow : (y + 1) * c.stride ≤ c.load.height * c.stride := Nat.mul_le_mul_right _ hy
  have hobj : objectBytes c.load.width c.load.height c.load.depth = c.load.height * c.stride := Nat.mul_comm _ _
  rw [Nat.succ_mul] at hrow
  rw [hc.2, granulesNeeded, hobj]
  generalize c.load.height * c.stride = n at *
  simp only [Config.granuleBytes]
  omega

/-- A byte of row y lies in a stretch of row v where the rows are the same. -/
theorem row_stretch {S q r n : Nat} (hq : q < S) (hr : r + n ≤ S) (y v : Nat) :
    (v * S + r ≤ y * S + q ∧ y * S + q < v * S + r + n) ↔ y = v ∧ r ≤ q ∧ q < r + n := by
  obtain h | rfl | h := Nat.lt_trichotomy y v
  · have := Nat.mul_le_mul_right S h
    rw [Nat.succ_mul] at this
    omega
  · omega
  · have := Nat.mul_le_mul_right S h
    rw [Nat.succ_mul] at this
    omega

/-- A pixel written, slot by slot (R22, R45). -/
theorem poke_slot {c : Canvas} (hc : c.Whole) {u v x : Nat} (hu : u < c.slots) (hv : v < c.load.height)
    (hx : x < c.slots) (y : Nat) (ix : Byte) :
    (c.poke u v ix).slot x y = if x = u ∧ y = v then ix &&& c.load.depth.mask else c.slot x y := by
  have hub := slotByte_lt hu
  have hxb := slotByte_lt hx
  have hin : (chainAddr c.chain (pixelOffset c.load.width c.load.depth u v)).isSome = true :=
    chainAddr_isSome (by have := rows_le_chain hc hv hub; rw [pixelOffset_eq]; omega)
  have hsame : pixelOffset c.load.width c.load.depth x y = pixelOffset c.load.width c.load.depth u v ↔
      y = v ∧ x * c.load.depth.bits / 8 = u * c.load.depth.bits / 8 := by
    have := row_stretch hxb (r := u * c.load.depth.bits / 8) (n := 1) hub y v
    rw [pixelOffset_eq, pixelOffset_eq]
    omega
  show indexIn c.load.depth x
    (chainRead (chainWrite c.mem c.chain _ _) c.chain (pixelOffset c.load.width c.load.depth x y)) = _
  rw [chainRead_chainWrite hc.1 hin]
  by_cases ho : pixelOffset c.load.width c.load.depth x y = pixelOffset c.load.width c.load.depth u v
  · obtain ⟨rfl, hb⟩ := hsame.mp ho
    rw [if_pos ho]
    by_cases hxu : x = u
    · subst hxu
      rw [indexIn_withIndex_self, if_pos ⟨rfl, rfl⟩]
    · have hmod : x % (8 / c.load.depth.bits) ≠ u % (8 / c.load.depth.bits) := by
        cases hd : c.load.depth <;> rw [hd] at hb <;> simp only [Depth.bits] at hb ⊢ <;> omega
      rw [indexIn_withIndex_other hmod, if_neg fun h => hxu h.1, ← ho]; rfl
  · rw [if_neg ho, if_neg]
    · rfl
    · rintro ⟨rfl, rfl⟩; exact ho rfl

/-- The bytes that the padding of the current row takes (R38, R45). -/
theorem padRow_read {c : Canvas} (hc : c.Whole) (hv : c.load.row < c.load.height) (b : Nat) :
    chainRead c.padRow.mem c.chain b =
      let used := c.load.width * c.load.depth.bits
      let base := c.load.row * c.stride
      if base + (used + 7) / 8 ≤ b ∧ b < base + c.stride then 0
      else if used % 8 ≠ 0 ∧ b = base + used / 8 then chainRead c.mem c.chain b &&& ~~~((255 : Byte) >>> (used % 8))
      else chainRead c.mem c.chain b := by
  have hused : c.load.width * c.load.depth.bits ≤ c.stride * 8 := by unfold Canvas.stride strideOf; omega
  have hend := rows_le_chain hc hv le_rfl
  unfold Canvas.padRow
  dsimp only
  generalize c.load.width * c.load.depth.bits = used at *
  rw [chainRead_zeroBytes hc.1 (by omega)]
  refine ite_congr (by simp; omega) (fun _ => rfl) fun _ => ?_
  by_cases hu : used % 8 = 0
  · rw [if_pos hu, if_neg fun h => h.1 hu]
  · rw [if_neg hu, chainRead_chainWrite hc.1 (chainAddr_isSome (by omega))]
    refine ite_congr (by simp [hu]) (fun hb => ?_) fun _ => rfl
    rw [hb.2]

/-- The padding of a row is cleared; every pixel keeps its index (R45). -/
theorem closeRow_slot {c : Canvas} (hc : c.Whole) (hv : c.load.row < c.load.height) {x : Nat} (hx : x < c.slots)
    (y : Nat) :
    c.closeRow.slot x y = if y = c.load.row ∧ c.load.width ≤ x then 0 else c.slot x y := by
  have hxb := slotByte_lt hx
  have hused : (c.load.width * c.load.depth.bits + 7) / 8 ≤ c.stride := by unfold Canvas.stride strideOf; omega
  have hpad := row_stretch hxb (r := (c.load.width * c.load.depth.bits + 7) / 8)
    (n := c.stride - (c.load.width * c.load.depth.bits + 7) / 8) (by omega) y c.load.row
  show indexIn c.load.depth x (chainRead c.padRow.mem c.chain (pixelOffset c.load.width c.load.depth x y)) = _
  rw [padRow_read hc hv, pixelOffset_eq]
  dsimp only
  by_cases hin : y = c.load.row ∧ (c.load.width * c.load.depth.bits + 7) / 8 ≤ x * c.load.depth.bits / 8
  · have hw : c.load.width ≤ x := by
      obtain ⟨-, h⟩ := hin
      cases hd : c.load.depth <;> rw [hd] at h <;> simp only [Depth.bits] at h <;> omega
    rw [if_pos (by omega), indexIn_zero, if_pos ⟨hin.1, hw⟩]
  · rw [if_neg (by omega)]
    by_cases hlast : c.load.width * c.load.depth.bits % 8 ≠ 0 ∧
        y * c.stride + x * c.load.depth.bits / 8 = c.load.row * c.stride + c.load.width * c.load.depth.bits / 8
    · have hone := row_stretch hxb (r := c.load.width * c.load.depth.bits / 8) (n := 1) (by omega) y c.load.row
      obtain ⟨rfl, hb⟩ : y = c.load.row ∧ x * c.load.depth.bits / 8 = c.load.width * c.load.depth.bits / 8 := by omega
      rw [if_pos hlast, indexIn_keep]
      have hxw : x % (8 / c.load.depth.bits) < c.load.width % (8 / c.load.depth.bits) ↔
          ¬(c.load.row = c.load.row ∧ c.load.width ≤ x) := by
        simp only [true_and, Nat.not_le]
        cases hd : c.load.depth <;> rw [hd] at hb <;> simp only [Depth.bits] at hb ⊢ <;> omega
      rw [← ite_not]
      exact if_congr (by rw [hxw, not_not]) rfl rfl
    · rw [if_neg hlast, if_neg]
      · rfl
      · rintro ⟨rfl, hw⟩
        have hw' : c.load.width * c.load.depth.bits / 8 ≤ x * c.load.depth.bits / 8 :=
          Nat.div_le_div_right (Nat.mul_le_mul_right _ hw)
        omega

end Sys2Proof.Machine
end

section
/-! PROOFS. The object code, code by code: what each leaves of the load record, the fault flag and every pixel slot (R44
to R51). -/

namespace Sys2Proof.Machine

open Sys2Proof

/-! ### What an operation of the canvas leaves -/

/-- From canvas `c` an operation leaves `c'`: the load record but for these four fields and the chain stand, the fault
flag is `fault`, and slot (x, y) holds `pixel x y`. -/
structure Canvas.Leaves (c c' : Canvas) (row col : Nat) (code : Option PendingCode) (ended fault : Bool)
    (pixel : Nat → Nat → Byte) : Prop where
  load : c'.load = { c.load with row := row, col := col, code := code, ended := ended }
  chain : c'.chain = c.chain
  fault : c'.fault = fault
  slot : ∀ x y, x < c.slots → y < c.load.height → c'.slot x y = pixel x y

namespace Canvas.Leaves

variable {c c' c'' : Canvas} {row row' col col' : Nat} {code code' : Option PendingCode}
  {ended ended' fault fault' : Bool} {pixel pixel' pixel'' : Nat → Nat → Byte}

theorem head (h : c.Leaves c' row col code ended fault pixel) : c'.head = c.head := by
  rw [Canvas.head, h.load, h.chain]; rfl

/-- One operation after another: the second one's slots are given by the first one's. -/
theorem trans (h : c.Leaves c' row col code ended fault pixel)
    (h' : c'.Leaves c'' row' col' code' ended' fault' pixel')
    (hp : ∀ x y, x < c.slots → y < c.load.height → pixel' x y = pixel'' x y) :
    c.Leaves c'' row' col' code' ended' fault' pixel'' where
  load := by rw [h'.load, h.load]
  chain := h'.chain.trans h.chain
  fault := h'.fault
  slot x y hx hy :=
    (h'.slot x y (by rwa [slots_of_head h.head]) (by rw [h.load]; exact hy)).trans (hp x y hx hy)

theorem congr (h : c.Leaves c' row col code ended fault pixel) (hr : row = row') (hc : col = col') (hf : fault = fault')
    (hp : ∀ x y, x < c.slots → y < c.load.height → pixel x y = pixel' x y) :
    c.Leaves c' row' col' code ended fault' pixel' := by
  subst hr hc hf
  exact ⟨h.load, h.chain, h.fault, fun x y hx hy => (h.slot x y hx hy).trans (hp x y hx hy)⟩

theorem refl (c : Canvas) : c.Leaves c c.load.row c.load.col c.load.code c.load.ended c.fault c.slot :=
  ⟨rfl, rfl, rfl, fun _ _ _ _ => rfl⟩

/-- The canvas that is left, written out. -/
theorem eq (h : c.Leaves c' row col code ended fault pixel) :
    c' = { c' with load := { c.load with row := row, col := col, code := code, ended := ended }, chain := c.chain,
                   fault := fault } := by
  obtain ⟨l, ch, m, f⟩ := c'
  obtain ⟨rfl, rfl, rfl, -⟩ := h
  rfl

/-- Its slots, as read through the chain of the canvas before. -/
theorem read (h : c.Leaves c' row col code ended fault pixel) {x y : Nat} (hx : x < c.slots) (hy : y < c.load.height) :
    indexIn c.load.depth x (chainRead c'.mem c.chain (pixelOffset c.load.width c.load.depth x y)) = pixel x y := by
  rw [← h.slot x y hx hy, Canvas.slot, h.load, h.chain]

/-! ### Marks -/

theorem setCode (h : c.Leaves c' row col code ended fault pixel) (p : Option PendingCode) :
    c.Leaves (c'.setCode p) row col p ended fault pixel :=
  ⟨by rw [Canvas.setCode, h.load], h.chain, h.fault, h.slot⟩

theorem setFault (h : c.Leaves c' row col code ended fault pixel) :
    c.Leaves c'.setFault row col code ended true pixel := ⟨h.load, h.chain, rfl, h.slot⟩

theorem setEnded (h : c.Leaves c' row col code ended fault pixel) :
    c.Leaves c'.setEnded row col code true fault pixel :=
  ⟨by rw [Canvas.setEnded, h.load], h.chain, h.fault, h.slot⟩

end Canvas.Leaves

/-! ### Rows closed and filled (R45, R47, R49) -/

section Rows

variable {c : Canvas} (hc : c.Whole)
include hc

theorem closeRow_leaves (hv : c.load.row < c.load.height) :
    c.Leaves c.closeRow (c.load.row + 1) 0 c.load.code c.load.ended c.fault
      fun x y => if y = c.load.row ∧ c.load.width ≤ x then 0 else c.slot x y :=
  ⟨rfl, rfl, rfl, fun _ y hx _ => closeRow_slot hc hv hx y⟩

theorem poke_leaves {u v : Nat} (hu : u < c.slots) (hv : v < c.load.height) (ix : Byte) :
    c.Leaves (c.poke u v ix) c.load.row c.load.col c.load.code c.load.ended c.fault
      fun x y => if x = u ∧ y = v then ix &&& c.load.depth.mask else c.slot x y :=
  ⟨rfl, rfl, rfl, fun _ y hx _ => poke_slot hc hu hv hx y ix⟩

theorem clearColumns_leaves {n u : Nat} (hu : u + n ≤ c.slots) (hv : c.load.row < c.load.height) :
    c.Leaves (Canvas.clearColumns n u c) c.load.row c.load.col c.load.code c.load.ended c.fault
      fun x y => if y = c.load.row ∧ u ≤ x ∧ x < u + n then 0 else c.slot x y := by
  induction n generalizing u c with
  | zero => exact (Canvas.Leaves.refl c).congr rfl rfl rfl fun x y _ _ => (if_neg (by omega)).symm
  | succ n ih =>
    have h := poke_leaves hc (u := u) (by omega) hv 0
    have h' := ih (c := c.poke u c.load.row 0) (u := u + 1) (whole_of_head h.head hc)
      (by rw [slots_of_head h.head]; omega) hv
    refine h.trans h' fun x y hx hy => ?_
    rw [h.slot x y hx hy, show (0 : Byte) &&& c.load.depth.mask = 0 from BitVec.zero_and]
    show (if y = c.load.row ∧ u + 1 ≤ x ∧ x < u + 1 + n then _ else _) = _
    rw [← ite_or]
    exact if_congr (by omega) rfl rfl

/-- The rest of a row, its padding included, is filled with 0. -/
theorem fillRow_leaves (hu : c.load.col ≤ c.load.width) (hv : c.load.row < c.load.height) :
    c.Leaves c.fillRow (c.load.row + 1) 0 c.load.code c.load.ended c.fault
      fun x y => if y = c.load.row ∧ c.load.col ≤ x then 0 else c.slot x y := by
  have hw := width_le_slots c
  have h := clearColumns_leaves hc (n := c.load.width - c.load.col) (u := c.load.col) (by omega) hv
  have h' := closeRow_leaves (whole_of_head h.head hc) (by rw [h.load]; exact hv)
  simp only [h.load, h.fault] at h'
  refine h.trans h' fun x y hx hy => ?_
  rw [h.slot x y hx hy, ← ite_or]
  exact if_congr (by omega) rfl rfl

/-- Whole rows filled with 0. -/
theorem fillRows_leaves {n : Nat} (hu : c.load.col = 0) (hn : c.load.row + n ≤ c.load.height) :
    c.Leaves (Canvas.fillRows n c) (c.load.row + n) 0 c.load.code c.load.ended c.fault
      fun x y => if c.load.row ≤ y ∧ y < c.load.row + n then 0 else c.slot x y := by
  induction n generalizing c with
  | zero => exact (Canvas.Leaves.refl c).congr rfl hu rfl fun x y _ _ => (if_neg (by omega)).symm
  | succ n ih =>
    have h := fillRow_leaves hc (by omega) (by omega)
    have h' := ih (whole_of_head h.head hc) (by rw [h.load]) (by rw [h.load]; dsimp only; omega)
    simp only [h.load, h.fault] at h'
    refine h.trans (h'.congr (Nat.add_right_comm _ _ _) rfl rfl fun _ _ _ _ => rfl) fun x y hx hy => ?_
    rw [h.slot x y hx hy, ← ite_or]
    exact if_congr (by omega) rfl rfl

/-- All that is left of the object filled with 0. -/
theorem fillObject_leaves (hu : c.load.col ≤ c.load.width) (hv : c.load.row < c.load.height) :
    c.Leaves c.fillObject c.load.height 0 c.load.code c.load.ended c.fault
      fun x y => if (y = c.load.row ∧ (c.load.col = 0 ∨ c.load.col ≤ x)) ∨ c.load.row < y then 0 else c.slot x y := by
  unfold Canvas.fillObject
  by_cases h0 : c.load.col = 0
  · simp only [if_pos h0]
    exact (fillRows_leaves hc h0 (by omega)).congr (by omega) rfl rfl fun x y _ hy => if_congr (by omega) rfl rfl
  · simp only [if_neg h0]
    have h := fillRow_leaves hc hu hv
    have h' := fillRows_leaves (n := c.load.height - (c.load.row + 1)) (whole_of_head h.head hc) (by rw [h.load])
      (by rw [h.load]; dsimp only; omega)
    simp only [h.load, h.fault] at h' ⊢
    refine h.trans (h'.congr (by omega) rfl rfl fun _ _ _ _ => rfl) fun x y hx hy => ?_
    rw [h.slot x y hx hy, ← ite_or]
    exact if_congr (by omega) rfl rfl

end Rows

/-! ### Runs (R45, R46) -/

/-- Pixels of these indexes written one after another from the position on. -/
def Canvas.putAll (c : Canvas) (ixs : List Byte) : Canvas := ixs.foldl (fun c ix => c.putPixel ix) c

theorem putRun_eq_putAll (ix : Byte) (n : Nat) (c : Canvas) :
    Canvas.putRun ix n c = c.putAll (List.replicate n ix) := by
  induction n generalizing c with
  | zero => rfl
  | succ n ih => rw [Canvas.putRun, ih]; rfl

theorem putPixel_setCode (b : Byte) (p : Option PendingCode) (c : Canvas) :
    (c.setCode p).putPixel b = (c.putPixel b).setCode p := by
  unfold Canvas.putPixel
  rw [apply_ite (Canvas.setCode · p)]
  rfl

theorem putAll_setCode (ixs : List Byte) (p : Option PendingCode) (c : Canvas) :
    (c.setCode p).putAll ixs = (c.putAll ixs).setCode p := by
  induction ixs generalizing c with
  | nil => rfl
  | cons b l ih => exact (congrArg (Canvas.putAll · l) (putPixel_setCode b p c)).trans (ih _)

theorem endRun_setCode (p : Option PendingCode) (c : Canvas) : (c.setCode p).endRun = c.endRun.setCode p := by
  unfold Canvas.endRun
  rw [apply_ite (Canvas.setCode · p)]
  rfl

section Runs

variable {c : Canvas} (hc : c.Whole) (hv : c.load.row < c.load.height)
include hc hv

theorem putPixel_leaves (hu : c.load.col ≤ c.load.width) (ix : Byte) :
    c.Leaves (c.putPixel ix) c.load.row (min c.load.width (c.load.col + 1)) c.load.code c.load.ended
      (c.fault || decide (c.load.width < c.load.col + 1) || (ix &&& c.load.depth.mask != ix))
      fun x y => if y = c.load.row ∧ x = c.load.col ∧ x < c.load.width then ix &&& c.load.depth.mask else c.slot x y := by
  have hw := width_le_slots c
  unfold Canvas.putPixel
  by_cases h : c.load.col < c.load.width
  · rw [if_pos h]
    have hp := poke_leaves hc (u := c.load.col) (v := c.load.row) (by omega) hv ix
    refine ⟨?_, rfl, ?_, fun x y hx hy => ?_⟩
    · rw [Nat.min_eq_right h]; rfl
    · rw [decide_eq_false (by omega), Bool.or_false]; rfl
    · exact (hp.slot x y hx hy).trans (if_congr (by omega) rfl rfl)
  · rw [if_neg h]
    refine ((Canvas.Leaves.refl c).setFault).congr rfl (by omega) ?_ fun x y _ _ => (if_neg (by omega)).symm
    rw [decide_eq_true (by omega)]; simp

/-- A run of pixels, up to the row's end; those beyond it are discarded with a fault (R45, R46). -/
theorem putAll_leaves (hu : c.load.col ≤ c.load.width) (ixs : List Byte) :
    c.Leaves (c.putAll ixs) c.load.row (min c.load.width (c.load.col + ixs.length)) c.load.code c.load.ended
      (c.fault || decide (c.load.width < c.load.col + ixs.length) || ixs.any fun ix => ix &&& c.load.depth.mask != ix)
      fun x y =>
        if y = c.load.row ∧ c.load.col ≤ x ∧ x < c.load.width ∧ x < c.load.col + ixs.length then
          (ixs[x - c.load.col]?.getD 0) &&& c.load.depth.mask
        else c.slot x y := by
  induction ixs generalizing c with
  | nil =>
    refine (Canvas.Leaves.refl c).congr rfl (by simp [hu]) ?_ fun x y _ _ => (if_neg (by simp; omega)).symm
    rw [decide_eq_false (by simpa using hu)]; simp
  | cons b l ih =>
    have h := putPixel_leaves hc hv hu b
    have h' := ih (whole_of_head h.head hc) (by rw [h.load]; exact hv) (by rw [h.load]; exact Nat.min_le_left _ _)
    simp only [h.load, h.fault] at h'
    refine h.trans (h'.congr rfl ?_ ?_ fun _ _ _ _ => rfl) fun x y hx hy => ?_
    · rw [List.length_cons]; omega
    · rw [List.length_cons, List.any_cons]
      by_cases hlast : c.load.col < c.load.width
      · have hmin : min c.load.width (c.load.col + 1) + l.length = c.load.col + (l.length + 1) := by omega
        rw [hmin, decide_eq_false (by omega : ¬c.load.width < c.load.col + 1), Bool.or_false]
        ac_rfl
      · rw [decide_eq_true (by omega : c.load.width < c.load.col + 1),
          decide_eq_true (by omega : c.load.width < c.load.col + (l.length + 1))]
        simp
    · rw [h.slot x y hx hy, List.length_cons]
      by_cases hrow : y = c.load.row ∧ x < c.load.width
      · obtain ⟨hy', hxw⟩ := hrow
        obtain hlt | rfl | hgt := Nat.lt_trichotomy x c.load.col
        · rw [if_neg (by omega), if_neg (by omega), if_neg (by omega)]
        · rw [if_neg (by omega), if_pos (by omega), if_pos (by omega), Nat.sub_self]; rfl
        · have hmin : min c.load.width (c.load.col + 1) = c.load.col + 1 := by omega
          have hget : x - c.load.col = x - (c.load.col + 1) + 1 := by omega
          rw [hmin, hget, List.getElem?_cons_succ, if_neg (show ¬(y = c.load.row ∧ x = c.load.col ∧ _) by omega)]
          exact if_congr (by omega) rfl rfl
      · rw [if_neg (by omega), if_neg (by omega), if_neg (by omega)]

/-- A whole run, which closes a row that it fills (R45). -/
theorem run_leaves (hu : c.load.col < c.load.width) (ixs : List Byte) :
    c.Leaves (c.putAll ixs).endRun
      (if c.load.width ≤ c.load.col + ixs.length then c.load.row + 1 else c.load.row)
      (if c.load.width ≤ c.load.col + ixs.length then 0 else c.load.col + ixs.length) c.load.code c.load.ended
      (c.fault || decide (c.load.width < c.load.col + ixs.length) || ixs.any fun ix => ix &&& c.load.depth.mask != ix)
      fun x y =>
        if y = c.load.row ∧ c.load.col ≤ x ∧ x < c.load.width ∧ x < c.load.col + ixs.length then
          (ixs[x - c.load.col]?.getD 0) &&& c.load.depth.mask
        else if y = c.load.row ∧ c.load.width ≤ x ∧ c.load.width ≤ c.load.col + ixs.length then 0
        else c.slot x y := by
  have h := putAll_leaves hc hv hu.le ixs
  unfold Canvas.endRun
  by_cases hfull : c.load.width ≤ c.load.col + ixs.length
  · rw [if_pos (by rw [h.load]; exact Nat.min_eq_left hfull), if_pos hfull, if_pos hfull]
    have h' := closeRow_leaves (whole_of_head h.head hc) (by rw [h.load]; exact hv)
    simp only [h.load, h.fault] at h'
    refine h.trans h' fun x y hx hy => ?_
    rw [h.slot x y hx hy]
    refine (ite_ite_comm _ _ _ _ ?_).trans (if_congr Iff.rfl rfl (if_congr (by omega) rfl rfl))
    omega
  · rw [if_neg (by rw [h.load]; dsimp only; omega), if_neg hfull, if_neg hfull]
    refine h.congr rfl (by omega) rfl fun x y _ _ => ?_
    rw [if_neg (show ¬(y = c.load.row ∧ c.load.width ≤ x ∧ _) from fun hend => hfull hend.2.2)]

end Runs

/-! ### Copies (R48) -/

section Copies

variable {c : Canvas} (hc : c.Whole)
include hc

/-- One copy of the row above; at row 0 a row of 0. -/
theorem copyRow_leaves (hu : c.load.col = 0) (hv : c.load.row < c.load.height) :
    c.Leaves c.copyRow (c.load.row + 1) 0 c.load.code c.load.ended c.fault
      fun x y => if y = c.load.row then (if c.load.row = 0 then 0 else c.slot x (c.load.row - 1)) else c.slot x y := by
  unfold Canvas.copyRow
  by_cases h0 : c.load.row = 0
  · rw [if_pos h0]
    refine (fillRow_leaves hc (by omega) hv).congr rfl rfl rfl fun x y _ _ => ?_
    rw [if_pos h0]
    exact if_congr (by omega) rfl rfl
  · rw [if_neg h0]
    refine ⟨rfl, rfl, rfl, fun x y hx hy => ?_⟩
    have hend := rows_le_chain hc hv le_rfl
    have hbelow : (c.load.row - 1) * c.stride + c.stride = c.load.row * c.stride := by
      rw [← Nat.succ_mul]; congr 1; omega
    have hxb := slotByte_lt hx
    have hin := row_stretch hxb (r := 0) (n := c.stride) (by omega) y c.load.row
    show indexIn c.load.depth x (chainRead (copyBytes c.chain _ _ _ c.mem) c.chain
      (pixelOffset c.load.width c.load.depth x y)) = _
    rw [chainRead_copyBytes hc.1 (by omega) (by omega), pixelOffset_eq]
    by_cases hy' : y = c.load.row
    · subst hy'
      rw [if_pos (by omega), if_pos rfl, if_neg h0, Nat.add_sub_cancel_left]
      rfl
    · rw [if_neg (by omega), if_neg hy']
      rfl

/-- Copies of the row above the first of them. -/
theorem copyRows_leaves {n : Nat} (hu : c.load.col = 0) (hn : c.load.row + n ≤ c.load.height) :
    c.Leaves (Canvas.copyRows n c) (c.load.row + n) 0 c.load.code c.load.ended c.fault
      fun x y => if c.load.row ≤ y ∧ y < c.load.row + n then
          (if c.load.row = 0 then 0 else c.slot x (c.load.row - 1))
        else c.slot x y := by
  induction n generalizing c with
  | zero => exact (Canvas.Leaves.refl c).congr rfl hu rfl fun x y _ _ => (if_neg (by omega)).symm
  | succ n ih =>
    have h := copyRow_leaves hc hu (by omega)
    have h' := ih (whole_of_head h.head hc) (by rw [h.load]) (by rw [h.load]; dsimp only; omega)
    simp only [h.load, h.fault] at h'
    refine h.trans (h'.congr (Nat.add_right_comm _ _ _) rfl rfl fun _ _ _ _ => rfl) fun x y hx hy => ?_
    rw [h.slot x y hx hy, h.slot x (c.load.row + 1 - 1) hx (by omega), Nat.add_sub_cancel, if_pos rfl,
      if_neg (Nat.succ_ne_zero _), ← ite_or]
    exact if_congr (by omega) rfl rfl

/-- A partly written row is completed with a fault before copies begin. -/
theorem rowClosed_leaves (hu : c.load.col ≤ c.load.width) (hv : c.load.row < c.load.height) :
    c.Leaves c.rowClosed (if c.load.col = 0 then c.load.row else c.load.row + 1) 0 c.load.code c.load.ended
      (c.fault || decide (0 < c.load.col))
      fun x y => if 0 < c.load.col ∧ y = c.load.row ∧ c.load.col ≤ x then 0 else c.slot x y := by
  unfold Canvas.rowClosed
  by_cases h0 : c.load.col = 0
  · rw [if_pos h0, if_pos h0]
    refine (Canvas.Leaves.refl c).congr rfl h0 ?_ fun x y _ _ => (if_neg (by omega)).symm
    rw [decide_eq_false (by omega), Bool.or_false]
  · rw [if_neg h0, if_neg h0]
    refine ((fillRow_leaves hc hu hv).setFault).congr rfl rfl ?_ fun x y _ _ => ?_
    · rw [decide_eq_true (by omega), Bool.or_true]
    · exact if_congr (by omega) rfl rfl

/-- Copy rows, cut at the height with a fault. -/
theorem copyCode_leaves (hu : c.load.col ≤ c.load.width) (hv : c.load.row < c.load.height) (n : Nat) :
    let top := if c.load.col = 0 then c.load.row else c.load.row + 1
    let made := min (n + 1) (c.load.height - top)
    let above (x y : Nat) : Byte := if 0 < c.load.col ∧ y = c.load.row ∧ c.load.col ≤ x then 0 else c.slot x y
    c.Leaves (Canvas.copyCode n c) (top + made) 0 c.load.code c.load.ended
      (c.fault || decide (0 < c.load.col) || decide (made < n + 1))
      fun x y => if top ≤ y ∧ y < top + made then (if top = 0 then 0 else above x (top - 1)) else above x y := by
  intro top made above
  have h := rowClosed_leaves hc hu hv
  have htop : top ≤ c.load.height := by unfold top; split <;> omega
  have h' := copyRows_leaves (n := made) (whole_of_head h.head hc) (by rw [h.load])
    (by rw [h.load]; show top + made ≤ c.load.height; omega)
  simp only [h.load, h.fault] at h'
  have hall : c.Leaves (Canvas.copyRows made c.rowClosed) (top + made) 0 c.load.code c.load.ended
      (c.fault || decide (0 < c.load.col))
      fun x y => if top ≤ y ∧ y < top + made then (if top = 0 then 0 else above x (top - 1)) else above x y := by
    refine h.trans h' fun x y hx hy => ?_
    show (if top ≤ y ∧ y < top + made then (if top = 0 then 0 else c.rowClosed.slot x (top - 1))
      else c.rowClosed.slot x y) = _
    rw [h.slot x y hx hy]
    refine ite_congr rfl (fun hy' => ite_congr rfl (fun _ => rfl) fun _ => ?_) fun _ => rfl
    exact h.slot x (top - 1) hx (by omega)
  rw [copyCode_eq, h.load]
  by_cases hroom : c.load.height - top < n + 1
  · rw [if_pos hroom, show min (n + 1) (c.load.height - top) = made from rfl]
    refine hall.setFault.congr rfl rfl ?_ fun _ _ _ _ => rfl
    rw [decide_eq_true (show made < n + 1 by omega), Bool.or_true]
  · rw [if_neg hroom, show min (n + 1) (c.load.height - top) = made from rfl]
    refine hall.congr rfl rfl ?_ fun _ _ _ _ => rfl
    rw [decide_eq_false (show ¬made < n + 1 by omega), Bool.or_false]

end Copies

/-! ### Code bytes and their operands (R44) -/

theorem consumeAll_cons {b : Byte} {l : List Byte} {c c' : Canvas} (h : c.consume b = some c') :
    Canvas.consumeAll (b :: l) c = Canvas.consumeAll l c' := by rw [Canvas.consumeAll, h]

theorem consumeAll_one {b : Byte} {c c' : Canvas} (h : c.consume b = some c') : Canvas.consumeAll [b] c = .all c' :=
  consumeAll_cons h

/-- Bytes are consumed one after another, so a code may go on in the next fragment. -/
theorem consumeAll_append (l₁ l₂ : List Byte) (c : Canvas) :
    Canvas.consumeAll (l₁ ++ l₂) c = match Canvas.consumeAll l₁ c with
      | .all c1 => Canvas.consumeAll l₂ c1
      | .damaged c1 => .damaged c1 := by
  induction l₁ generalizing c with
  | nil => rfl
  | cons b l ih =>
    rw [List.cons_append, Canvas.consumeAll, Canvas.consumeAll]
    cases c.consume b with
    | none => rfl
    | some c' => exact ih c'

/-- The byte that a pending code waits for. -/
theorem consume_operand {c : Canvas} (he : c.load.ended = false) (p : PendingCode) (b : Byte) :
    (c.setCode (some p)).consume b = some ((c.setCode (some p)).operandByte p b) := by
  rw [Canvas.consume, if_neg (by show ¬c.load.ended = true; rw [he]; decide)]
  rfl

theorem putPixel_ended (b : Byte) (c : Canvas) : (c.putPixel b).load.ended = c.load.ended := by
  unfold Canvas.putPixel; split <;> rfl

theorem putAll_ended (ixs : List Byte) (c : Canvas) : (c.putAll ixs).load.ended = c.load.ended := by
  induction ixs generalizing c with
  | nil => rfl
  | cons b l ih => exact (ih _).trans (putPixel_ended b c)

/-- A literal run of which more is to come. -/
theorem consumeAll_literal_part {ixs : List Byte} {n : Nat} {c : Canvas} (he : c.load.ended = false)
    (hn : ixs.length < n) :
    Canvas.consumeAll ixs (c.setCode (some (.literal n))) =
      .all ((c.putAll ixs).setCode (some (.literal (n - ixs.length)))) := by
  induction ixs generalizing n c with
  | nil => rfl
  | cons b l ih =>
    rw [List.length_cons] at hn
    have hb : (c.setCode (some (.literal n))).consume b = some ((c.putPixel b).setCode (some (.literal (n - 1)))) := by
      rw [consume_operand he, Canvas.operandByte, if_neg (by omega), putPixel_setCode]; rfl
    rw [consumeAll_cons hb, ih ((putPixel_ended b c).trans he) (by omega), List.length_cons, Nat.add_comm, Nat.sub_sub]
    rfl

/-- A whole literal run. -/
theorem consumeAll_literal {ixs : List Byte} {c : Canvas} (he : c.load.ended = false) (h : ixs ≠ []) :
    Canvas.consumeAll ixs (c.setCode (some (.literal ixs.length))) = .all ((c.putAll ixs).endRun.setCode none) := by
  obtain ⟨l, b, rfl⟩ := (List.eq_nil_or_concat ixs).resolve_left h
  have hput : c.putAll (l ++ [b]) = (c.putAll l).putPixel b := List.foldl_append
  rw [List.concat_eq_append, List.length_append, List.length_singleton, consumeAll_append,
    consumeAll_literal_part he (Nat.lt_add_one _), Nat.add_sub_cancel_left]
  dsimp only
  rw [consumeAll_one (consume_operand ((putAll_ended l c).trans he) _ b), Canvas.operandByte, if_pos le_rfl,
    putPixel_setCode, endRun_setCode, hput]
  rfl

/-- A repeat's index byte. -/
theorem consumeAll_repeat {p : PendingCode} {n : Nat} (hp : p = .shortRepeat n ∨ p = .longIndex n) {c : Canvas}
    (he : c.load.ended = false) (ix : Byte) :
    Canvas.consumeAll [ix] (c.setCode (some p)) = .all ((c.putAll (List.replicate n ix)).endRun.setCode none) := by
  have hr : (c.setCode (some p)).operandByte p ix = (Canvas.putRun ix n (c.setCode (some p))).endRun.setCode none := by
    obtain rfl | rfl := hp <;> rfl
  rw [consumeAll_one (consume_operand he p ix), hr, putRun_eq_putAll, putAll_setCode, endRun_setCode]
  rfl

section Codes

variable {c : Canvas} (hcode : c.load.code = none) (he : c.load.ended = false) (hv : c.load.row < c.load.height)
include hcode he hv

/-- A byte where a code is expected. -/
theorem consume_code (b : Byte) : c.consume b = c.codeByte b := by
  rw [Canvas.consume, if_neg (by rw [he]; decide), hcode]
  exact if_neg (Nat.not_le.mpr hv)

theorem consume_literal {b : Byte} (h : b.toNat < 0x40) :
    c.consume b = some (c.setCode (some (.literal (b.toNat + 1)))) := by
  rw [consume_code hcode he hv]
  exact if_pos h

theorem consume_shortRepeat {b : Byte} (h : 0x40 ≤ b.toNat) (h' : b.toNat < 0x80) :
    c.consume b = some (c.setCode (some (.shortRepeat (b.toNat - 0x40 + 2)))) := by
  rw [consume_code hcode he hv, Canvas.codeByte, if_neg (by omega), if_pos h']

theorem consume_longCount {b : Byte} (h : 0x80 ≤ b.toNat) (h' : b.toNat < 0xA0) :
    c.consume b = some (c.setCode (some (.longCount (b.toNat - 0x80)))) := by
  rw [consume_code hcode he hv, Canvas.codeByte, if_neg (by omega), if_neg (by omega), if_pos h']

theorem consume_long {b : Byte} (h : 0x80 ≤ b.toNat) (h' : b.toNat < 0xA0) (n : Byte) (l : List Byte) :
    Canvas.consumeAll (b :: n :: l) c =
      Canvas.consumeAll l (c.setCode (some (.longIndex ((b.toNat - 0x80) * 256 + n.toNat + 1)))) := by
  rw [consumeAll_cons (consume_longCount hcode he hv h h'), consumeAll_cons (consume_operand he _ n)]
  rfl

theorem consume_endRow : c.consume 0xA0 = some c.fillRow := consume_code hcode he hv _

theorem consume_copyRows : c.consume 0xA1 = some (c.setCode (some .copyRows)) := consume_code hcode he hv _

theorem consume_endObject : c.consume 0xA2 = some c.fillObject.setEnded := consume_code hcode he hv _

theorem consume_invalid {b : Byte} (h : 0xA3 ≤ b.toNat) : c.consume b = none := by
  rw [consume_code hcode he hv, Canvas.codeByte]
  simp only [if_neg (show ¬b.toNat < 0x40 by omega), if_neg (show ¬b.toNat < 0x80 by omega),
    if_neg (show ¬b.toNat < 0xA0 by omega), if_neg (show ¬b.toNat = 0xA0 by omega),
    if_neg (show ¬b.toNat = 0xA1 by omega), if_neg (show ¬b.toNat = 0xA2 by omega)]

/-- A whole run is consumed as its pixels one after another. -/
theorem consumeAll_run {bytes ixs : List Byte} (hne : ixs ≠ [])
    (h : (∃ b : Byte, b.toNat < 0x40 ∧ ixs.length = b.toNat + 1 ∧ bytes = b :: ixs) ∨
      (∃ b ix : Byte, 0x40 ≤ b.toNat ∧ b.toNat < 0x80 ∧ ixs = List.replicate (b.toNat - 0x40 + 2) ix ∧ bytes = [b, ix]) ∨
      ∃ b n ix : Byte, 0x80 ≤ b.toNat ∧ b.toNat < 0xA0 ∧
        ixs = List.replicate ((b.toNat - 0x80) * 256 + n.toNat + 1) ix ∧ bytes = [b, n, ix]) :
    Canvas.consumeAll bytes c = .all ((c.putAll ixs).endRun.setCode none) := by
  obtain ⟨b, hb, hlen, rfl⟩ | ⟨b, ix, hb, hb', rfl, rfl⟩ | ⟨b, n, ix, hb, hb', rfl, rfl⟩ := h
  · rw [consumeAll_cons (consume_literal hcode he hv hb), ← hlen, consumeAll_literal he hne]
  · rw [consumeAll_cons (consume_shortRepeat hcode he hv hb hb'), consumeAll_repeat (.inl rfl) he]
  · rw [consume_long hcode he hv hb hb', consumeAll_repeat (.inr rfl) he]

end Codes

/-- The first byte after the last row (R49). -/
theorem afterLastRow_eq (b : Byte) (c : Canvas) :
    c.afterLastRow b = { c with load := { c.load with ended := true }, fault := c.fault || b != 0xA2 } := by
  unfold Canvas.afterLastRow
  by_cases h : b = 0xA2
  · subst h
    exact (if_pos rfl).trans (by simp [Canvas.setEnded])
  · have hn : b.toNat ≠ 0xA2 := fun e => h (BitVec.eq_of_toNat_eq e)
    rw [if_neg hn, bne_iff_ne.mpr h, Bool.or_true]
    rfl

/-- R51: what the close of a load leaves, with rows still to write or the end code taken. -/
theorem close_leaves {c : Canvas} (hc : c.Whole) (hu : c.load.col ≤ c.load.width) (hv : c.load.row < c.load.height) :
    c.Leaves c.close (if c.load.ended then c.load.row else c.load.height) (if c.load.ended then c.load.col else 0) none
      c.load.ended (c.fault || c.load.code.isSome || !c.load.ended)
      fun x y =>
        if c.load.ended = false ∧
            ((y = c.load.row ∧ (c.load.col = 0 ∨ c.load.col ≤ x)) ∨ c.load.row < y) then 0
        else c.slot x y := by
  have h : c.Leaves c.codeDropped c.load.row c.load.col none c.load.ended (c.fault || c.load.code.isSome) c.slot := by
    unfold Canvas.codeDropped
    cases hcode : c.load.code with
    | none =>
      refine ⟨?_, rfl, (Bool.or_false _).symm, fun _ _ _ _ => rfl⟩
      rw [if_neg (by decide), ← hcode]
    | some p =>
      rw [if_pos (by rfl)]
      refine (((Canvas.Leaves.refl c).setCode none).setFault).congr rfl rfl ?_ fun _ _ _ _ => rfl
      simp
  rw [close_eq, h.load]
  cases he : c.load.ended with
  | true =>
    rw [if_neg (fun hend => nomatch hend.1)]
    refine (he ▸ h).congr rfl rfl (by simp) fun x y _ _ => (if_neg (by simp)).symm
  | false =>
    rw [if_pos ⟨rfl, hv⟩]
    have h' := fillObject_leaves (whole_of_head h.head hc) (by rw [h.load]; exact hu) (by rw [h.load]; exact hv)
    simp only [h.load, h.fault, he] at h'
    refine (h.trans h'.setFault fun x y hx hy => ?_).congr rfl rfl (by simp) fun _ _ _ _ => rfl
    rw [h.slot x y hx hy]
    exact if_congr (by simp) rfl rfl

/-- R51: the close of a load whose rows are all written. -/
theorem close_written {c : Canvas} (hv : c.load.height ≤ c.load.row) :
    c.close = { c with load := { c.load with code := none }, fault := c.fault || c.load.code.isSome } := by
  obtain ⟨⟨id, ver, w, h, d, row, col, code, ended⟩, chain, m, f⟩ := c
  have hnot : ¬(ended = false ∧ row < h) := fun hl => absurd hl.2 (Nat.not_lt.mpr hv)
  rw [close_eq]
  cases code with
  | none => exact (if_neg hnot).trans (by simp [Canvas.codeDropped])
  | some p => exact (if_neg hnot).trans (by simp [Canvas.codeDropped, Canvas.setCode, Canvas.setFault])

/-- Settles O20, code by code. -/
theorem codesWritePixels : Obligations.CodesWritePixels := by
  refine ⟨fun c u v x y ix hu hv hx hy hn hlen => ?_, consumeAll_append, ?_⟩
  · have hw := width_le_slots c
    have hp := poke_slot (c := c) ⟨hn, hlen⟩ (hu.trans_le hw) hv (hx.trans_le hw) y ix
    exact hp
  intro c hn hlen w h d u v slot leaves old filled
  have hc : c.Whole := ⟨hn, hlen⟩
  have left {c' : Canvas} {row col : Nat} {code : Option PendingCode} {ended fault : Bool} {pixel : Nat → Nat → Byte}
      (hl : c.Leaves c' row col code ended fault pixel) : leaves c' row col code ended fault pixel :=
    ⟨hl.eq, fun x y hx hy => hl.read hx hy⟩
  refine ⟨fun hcode he hv hu => ⟨fun bytes ixs hne hb => ?_, fun b ixs hb hl => ?_, fun b n bytes _ hb => ?_, ?_,
    fun n => ?_, ?_, fun b l hb => ?_⟩, fun b hcode he hv => ?_, fun b he => ?_, fun hv hu => ?_, fun hv => ?_⟩
  · intro full
    refine ⟨_, consumeAll_run hcode he hv hne hb, left ?_⟩
    have hr := (run_leaves hc hv hu ixs).setCode none
    rw [he] at hr
    have hfull : (full = true) = (w ≤ u + ixs.length) := decide_eq_true_eq
    simp only [hfull]
    exact hr
  · have hp := (putAll_leaves hc hv hu.le ixs).setCode (some (.literal (b.toNat + 1 - ixs.length)))
    rw [he] at hp
    exact ⟨_, _, (consumeAll_cons (consume_literal hcode he hv hb)).trans (consumeAll_literal_part he hl), left hp⟩
  · obtain ⟨rfl, hb | rfl⟩ | ⟨rfl, hb, hb'⟩ := hb
    · by_cases hlong : b.toNat < 0x80
      · exact ⟨_, consumeAll_one (consume_shortRepeat hcode he hv hb.1 hlong)⟩
      · exact ⟨_, consumeAll_one (consume_longCount hcode he hv (Nat.not_lt.mp hlong) hb.2)⟩
    · exact ⟨_, consumeAll_one (consume_copyRows hcode he hv)⟩
    · exact ⟨_, consume_long hcode he hv hb hb' n []⟩
  · refine ⟨_, consumeAll_one (consume_endRow hcode he hv), left ?_⟩
    have hr := fillRow_leaves hc hu.le hv
    rw [hcode, he] at hr
    exact hr
  · intro top made above
    refine ⟨(Canvas.copyCode n.toNat (c.setCode (some .copyRows))).setCode none, ?_, left ?_⟩
    · rw [consumeAll_cons (consume_copyRows hcode he hv), consumeAll_one (consume_operand he _ n)]
      rfl
    · have hp := (Canvas.Leaves.refl c).setCode (some .copyRows)
      have hr := (copyCode_leaves (c := c.setCode (some .copyRows)) hc hu.le hv n.toNat).setCode none
      have ht := hp.trans hr fun _ _ _ _ => rfl
      rw [show (c.setCode (some .copyRows)).load.ended = false from he] at ht
      exact ht
  · refine ⟨_, consumeAll_one (consume_endObject hcode he hv), left ?_⟩
    have hr := (fillObject_leaves hc hu.le hv).setEnded
    rw [hcode] at hr
    exact hr
  · rw [Canvas.consumeAll, consume_invalid hcode he hv hb]
  · refine consumeAll_one ?_
    rw [Canvas.consume, if_neg (by rw [he]; decide), hcode]
    dsimp only
    rw [if_pos hv, afterLastRow_eq]
  · exact consumeAll_one (by rw [Canvas.consume, if_pos he]; rfl)
  · refine left ((close_leaves hc hu hv).congr rfl rfl rfl fun x y _ _ => ?_)
    cases c.load.ended with
    | true => exact if_neg fun hend => nomatch hend.1
    | false => exact if_congr (by simp [u, v]) rfl rfl
  · exact close_written hv

end Sys2Proof.Machine
end

section
/-! PROOFS. A MIDDLE or LAST at a free decoder: what the decoder makes of it by the load it holds, and what becomes of the
fragment in the segment port (3.1). -/

namespace Sys2Proof.Machine

open Sys2Proof

section Following

variable {k : ObjId} {last : Bool} {code : List Byte} {s : State}

/-- The position of a MIDDLE or LAST. -/
def followingPosition (last : Bool) : Position := if last then .last else .middle

/-- The body of a MIDDLE or LAST (11.4). -/
def followingBody (k : ObjId) (last : Bool) (code : List Byte) : List Byte :=
  fragmentBody (followingPosition last) (BitVec.ofNat 16 k.val) code

theorem followingBody_length : (followingBody k last code).length = 3 + code.length := fragmentBody_length ..

theorem segmentOf_followingCommand (k : ObjId) (last : Bool) (code : List Byte) :
    segmentOf ((if last then Instr.objectDataLast else Instr.objectDataMiddle) (BitVec.ofNat 16 k.val) code) =
      some ⟨.objectData, followingBody k last code⟩ := by
  cases last <;> rfl

/-- The id bytes of a fragment's body spell the object (11.4). -/
theorem objId_fragmentBody (pos : Position) (k : ObjId) (r : List Byte) :
    finOf? Config.numObjects (at16 (fragmentBody pos (BitVec.ofNat 16 k.val) r) 0).toNat = some k := by
  have hk : k.val < 512 := k.isLt
  rw [← num16_eq, num16_fragmentBody, BitVec.toNat_ofNat, Nat.mod_eq_of_lt (by omega), finOf?, dif_pos k.isLt]

/-- A MIDDLE or LAST is read as it is spelled (R39). -/
theorem readFragment_followingBody : readFragment (followingBody k last code) = some (.following k last code) := by
  have hlen : 3 ≤ (followingBody k last code).length := by rw [followingBody_length]; omega
  rw [readFragment, if_pos hlen, followingBody, objId_fragmentBody]
  cases last <;> rfl

theorem takeSegment_followingBody (s : State) :
    takeSegment ⟨.objectData, followingBody k last code⟩ s = joinLoad k last code s := by
  rw [takeSegment, takeFragment, readFragment_followingBody]

/-- A MIDDLE or LAST that arrives at a free decoder (R14, R40): it stays in the queue if the decoder goes on to decode
it. -/
theorem exec_following (ht : TakesContent s (3 + code.length)) :
    exec ((if last then Instr.objectDataLast else Instr.objectDataMiddle) (BitVec.ofNat 16 k.val) code) s =
      .next (if (joinLoad k last code s).decoder.busy then
          joinLoad k last code (joined s ⟨.objectData, followingBody k last code⟩)
        else joinLoad k last code (visited s (3 + code.length))) := by
  rw [← followingBody_length (k := k) (last := last)] at ht ⊢
  rw [exec_segmentOf (segmentOf_followingCommand k last code), unlessHeld, ht.1.1]
  simp only [← takeSegment_followingBody]
  exact congrArg _ (present_free rfl ht)

/-! ### The load in progress joined (R42) -/

/-- The fragment of the load in AWAIT. -/
theorem joinLoad_await {l : Load} (hd : s.decoder = .await l) (hk : l.id = k) :
    joinLoad k last code s = s.setDecoder (.decoding l (followingPosition last) code) := by
  rw [joinLoad, hd]; exact if_pos hk

/-- The fragment of the object in SKIPPING. -/
theorem joinLoad_skipping (hd : s.decoder = .skipping k) : joinLoad k last code s = s := by
  rw [joinLoad, hd]; exact if_pos rfl

/-- A fragment of no load that a free decoder holds or skips. -/
theorem joinLoad_stray (hb : s.decoder.busy = false) (ha : ∀ l, s.decoder = .await l → l.id ≠ k)
    (hs : s.decoder ≠ .skipping k) :
    joinLoad k last code s = s.raise (.strayFragment k (followingPosition last)) := by
  rw [joinLoad]
  cases hd : s.decoder with
  | idle => rfl
  | await l => exact if_neg (ha l hd)
  | skipping j => exact if_neg fun hj => hs (hd.trans (by rw [hj]))
  | decoding l pos code => rw [hd] at hb; cases hb

/-! ### The command by the state of the decoder (R42) -/

theorem exec_following_await {l : Load} (ht : TakesContent s (3 + code.length)) (hd : s.decoder = .await l)
    (hk : l.id = k) :
    exec ((if last then Instr.objectDataLast else Instr.objectDataMiddle) (BitVec.ofNat 16 k.val) code) s =
      .next ((joined s ⟨.objectData, followingBody k last code⟩).setDecoder
        (.decoding l (followingPosition last) code)) := by
  rw [exec_following ht, joinLoad_await hd hk]
  exact congrArg _ (joinLoad_await hd hk)

theorem exec_following_skipping (ht : TakesContent s (3 + code.length)) (hd : s.decoder = .skipping k) :
    exec ((if last then Instr.objectDataLast else Instr.objectDataMiddle) (BitVec.ofNat 16 k.val) code) s =
      .next (visited s (3 + code.length)) := by
  rw [exec_following ht, joinLoad_skipping hd, ht.2.1]
  exact congrArg _ (joinLoad_skipping hd)

theorem exec_following_stray (ht : TakesContent s (3 + code.length)) (ha : ∀ l, s.decoder = .await l → l.id ≠ k)
    (hs : s.decoder ≠ .skipping k) :
    exec ((if last then Instr.objectDataLast else Instr.objectDataMiddle) (BitVec.ofNat 16 k.val) code) s =
      .next ((visited s (3 + code.length)).raise (.strayFragment k (followingPosition last))) := by
  have hfree : (joinLoad k last code s).decoder.busy = false := by
    rw [joinLoad_stray ht.2.1 ha hs, State.raise_decoder]; exact ht.2.1
  rw [exec_following ht, hfree]
  exact congrArg _ (joinLoad_stray ht.2.1 ha hs)

end Following

/-- Settles O18, by the state of the decoder. -/
theorem followingFragment : Obligations.FollowingFragment := by
  intro k last code s ht pos id stray
  cases hd : s.decoder with
  | idle => exact exec_following_stray ht (by simp [hd]) (by simp [hd])
  | await l =>
    by_cases hk : l.id = k
    · rw [exec_following_await ht hd hk]
      exact congrArg _ (if_pos hk).symm
    · rw [exec_following_stray ht (by simp [hd, hk]) (by simp [hd])]
      exact congrArg _ (if_neg hk).symm
  | skipping j =>
    by_cases hj : j = k
    · rw [exec_following_skipping ht (hj ▸ hd)]
      exact congrArg _ (if_pos hj).symm
    · rw [exec_following_stray ht (by simp [hd]) (by simp [hd, hj])]
      exact congrArg _ (if_neg hj).symm
  | decoding l p c =>
    have hb := ht.2.1
    rw [hd] at hb
    cases hb

end Sys2Proof.Machine
end

section
/-! PROOFS. What the navigation unit, the sequencer and the composition engine leave alone: the palette unit and the line
mixer, whose state only their own segments and events, Set Open and the resets change (chapters 4 and 6). -/

namespace Sys2Proof.Machine

open Sys2Proof

/-- The part of the state that the video output is made from, beside the pages: the palette unit and the mixer. -/
structure Picture where
  palette : PaletteUnit
  mixer : Mixer

/-- The palettes and the mixer of a state. -/
def State.picture (s : State) : Picture := { palette := s.palette, mixer := s.mixer }

theorem palette_of_picture {s t : State} (h : t.picture = s.picture) : t.palette = s.palette := congrArg Picture.palette h
theorem mixer_of_picture {s t : State} (h : t.picture = s.picture) : t.mixer = s.mixer := congrArg Picture.mixer h

/-! ### The setters of the other blocks -/

section Setters

variable (s : State)

@[simp] theorem setPort_picture (x : Port) : (s.setPort x).picture = s.picture := rfl
@[simp] theorem setDecoder_picture (x : Decoder) : (s.setDecoder x).picture = s.picture := rfl
@[simp] theorem setStore_picture (x : Store) : (s.setStore x).picture = s.picture := rfl
@[simp] theorem setMem_picture (x : Memory) : (s.setMem x).picture = s.picture := rfl
@[simp] theorem setEngine_picture (x : Engine) : (s.setEngine x).picture = s.picture := rfl
@[simp] theorem setNav_picture (x : Nav) : (s.setNav x).picture = s.picture := rfl
@[simp] theorem setSeq_picture (x : Sequencer) : (s.setSeq x).picture = s.picture := rfl
@[simp] theorem setReport_picture (x : ReportUnit) : (s.setReport x).picture = s.picture := rfl
@[simp] theorem setSkew_picture (x : StartSkew) : (s.setSkew x).picture = s.picture := rfl
@[simp] theorem raise_picture (b : ReportBody) : (s.raise b).picture = s.picture := rfl
@[simp] theorem setNavState_picture (c : NavCtx) (x : NavState) : (s.setNavState c x).picture = s.picture := rfl
@[simp] theorem setStack_picture (c : NavCtx) (x : List (PageId × Option Nat)) : (s.setStack c x).picture = s.picture := rfl
@[simp] theorem setCtx_picture (c : Ctx) (x : CtxState) : (s.setCtx c x).picture = s.picture := rfl
@[simp] theorem setRun_picture (x : RunState) : (s.setRun x).picture = s.picture := rfl
@[simp] theorem hear_picture (u : Sequencer × ReportUnit) : (s.hear u).picture = s.picture := rfl
@[simp] theorem malformed_picture (k : Kind) (b : List Byte) : (malformed k b s).picture = s.picture := rfl

end Setters

/-- A fold of steps that leave the picture alone leaves it alone. -/
theorem foldl_picture {α : Type} {f : State → α → State} (hf : ∀ s x, (f s x).picture = s.picture) (l : List α)
    (s : State) : (l.foldl f s).picture = s.picture := by
  induction l generalizing s with
  | nil => rfl
  | cons x l ih => rw [List.foldl_cons, ih, hf]

/-! ### The sequencer (chapter 8) -/

@[simp] theorem insertEntry_picture (x : ShowEntry) (s : State) : (insertEntry x s).2.picture = s.picture := by
  unfold insertEntry; split <;> rfl

@[simp] theorem advanceFrom_picture (ref : Option Nat) (s : State) : (advanceFrom ref s).picture = s.picture := by
  rw [advanceFrom_eq_rule]; rfl

@[simp] theorem advance_picture (s : State) : (advance s).picture = s.picture := advanceFrom_picture _ s

@[simp] theorem startTrigger_picture (b : StartedBy) (e : Nat) (s : State) :
    (startTrigger b e s).picture = s.picture := by rw [startTrigger_eq_rule]; rfl

@[simp] theorem stopTrigger_picture (s : State) : (stopTrigger s).picture = s.picture := by
  rw [stopTrigger_eq_rule]; rfl

@[simp] theorem flagsNotice_picture (new : Half) (s : State) : (flagsNotice new s).picture = s.picture := by
  rw [flagsNotice_eq_rule]; rfl

@[simp] theorem backStep_picture (s : State) : (backStep s).picture = s.picture := by
  unfold backStep
  split
  · rfl
  · rw [scanEntries_eq_rule]
    split <;> rename_i h <;> obtain ⟨-, rfl⟩ := Prod.mk.inj h <;> rfl

@[simp] theorem slideKey_picture (k : SlideKey) (s : State) : (slideKey k s).picture = s.picture := by
  cases hr : s.seq.run <;> cases k <;> simp [slideKey, hr]

@[simp] theorem expireDwell_picture (s : State) : (expireDwell s).picture = s.picture := by simp [expireDwell]

@[simp] theorem lateTarget_picture (t : Target) (s : State) : (lateTarget t s).picture = s.picture := by
  unfold lateTarget; split <;> rfl

@[simp] theorem testTime_picture (s : State) : (testTime s).picture = s.picture := by unfold testTime; split <;> simp

@[simp] theorem sequencerEnd_picture (s : State) : (sequencerEnd s).picture = s.picture := by
  have dwell (s : State) : (countDwell s).picture = s.picture := by
    unfold countDwell
    split
    · split
      · split <;> simp
      all_goals rfl
    · rfl
  have target (s : State) : (testTarget s).picture = s.picture := by
    unfold testTarget markReady
    split
    · rfl
    · split_ifs <;> simp
  have insert (s : State) : (insertTarget s).picture = s.picture := by
    unfold insertTarget
    split
    · rfl
    · split
      · split
        · rfl
        · next e _ =>
          have h := insertEntry_picture (slideShow e) s
          split <;> simp_all
      · rfl
  simp [sequencerEnd, dwell, target, insert]

@[simp] theorem slideNotApplied_picture (s : State) : (slideNotApplied s).picture = s.picture := by
  unfold slideNotApplied
  split
  · rfl
  · dsimp only; split_ifs <;> simp

/-! ### The navigation unit (chapter 7) -/

@[simp] theorem writeFlags_picture (new : Half) (s : State) : (writeFlags new s).picture = s.picture := by
  unfold writeFlags; split <;> simp

@[simp] theorem navRedefined_picture (p : PageId) (s : State) : (navRedefined p s).picture = s.picture := by
  have h (c s) : (navRedefinedIn c p s).picture = s.picture := by unfold navRedefinedIn; dsimp only; split <;> rfl
  rw [navRedefined, h, h]

@[simp] theorem insertWith_picture (c : NavCtx) (e : ShowEntry) (l : List (PageId × Option Nat)) (s : State) :
    (insertWith c e l s).picture = s.picture := by
  have h := insertEntry_picture e s
  unfold insertWith
  split <;> simp_all

@[simp] theorem goBack_picture (c : NavCtx) (t : Transition) (s : State) : (goBack c t s).picture = s.picture := by
  unfold goBack
  dsimp only
  split
  · simp
  · cases c <;> simp

@[simp] theorem performAction_picture (c : NavCtx) (a : Action) (s : State) :
    (performAction c a s).picture = s.picture := by
  cases a with
  | slidesStart e => simp only [performAction, buttonStart]; split <;> simp
  | slidesStop => simp only [performAction, buttonStop]; split <;> simp
  | setFlags set clear => simp only [performAction, setFlagsAction]; split <;> simp
  | _ => simp [performAction, goTo, closeContext]

@[simp] theorem finishActivation_picture (c : NavCtx) (i : Nat) (s : State) :
    (finishActivation c i s).picture = s.picture := by
  have execute (s : State) : (executeAction c i s).picture = s.picture := by
    unfold executeAction
    split
    · rfl
    · dsimp only; split <;> simp
  simp [finishActivation, execute]

@[simp] theorem activate_picture (c : NavCtx) (i : Nat) (s : State) : (activate c i s).picture = s.picture := by
  unfold activate; dsimp only; split <;> simp

@[simp] theorem countActivation_picture (c : NavCtx) (s : State) : (countActivation c s).picture = s.picture := by
  unfold countActivation
  dsimp only
  split
  · rfl
  · split <;> simp

@[simp] theorem selectIn_picture (c : NavCtx) (j : Nat) (s : State) : (selectIn c j s).picture = s.picture := rfl

@[simp] theorem contextKey_picture (c : NavCtx) (e : KeyEntry) (s : State) : (contextKey c e s).picture = s.picture := by
  have arrow (d) : (arrowKey c d s).picture = s.picture := by
    unfold arrowKey
    dsimp only
    split
    · rfl
    · split <;> simp
  have ok : (okKey c s).picture = s.picture := by unfold okKey; split <;> simp
  have number (k) : (numberKey c k s).picture = s.picture := by unfold numberKey; dsimp only; split <;> simp
  unfold contextKey
  split
  · rfl
  · split <;> simp [arrow, ok, number]

@[simp] theorem popupKey_picture (s : State) : (popupKey s).picture = s.picture := by
  unfold popupKey
  split
  · simp
  · split <;> simp

@[simp] theorem handleKey_picture (e : KeyEntry) (s : State) : (handleKey e s).picture = s.picture := by
  unfold handleKey slideFocusKey
  split
  · simp
  · split
    · simp
    · split <;> simp

@[simp] theorem navEnd_picture (s : State) : (navEnd s).picture = s.picture := by
  have evaluate (s : State) : (evaluateConditions s).picture = s.picture := by
    unfold evaluateConditions evaluateIn; dsimp only; split <;> simp
  have key (s : State) : (takeOneKey s).picture = s.picture := by unfold takeOneKey; split <;> simp
  simp [navEnd, stepHeadsIn, clearFresh, evaluate, key]

/-! ### The composition engine (chapter 5) -/

@[simp] theorem noticeShown_picture (c : Ctx) (p : Option PageId) (r : Option Nat) (s : State) :
    (noticeShown c p r s).picture = s.picture := by
  have shown (p) : (slideShown p s).picture = s.picture := by
    unfold slideShown
    split
    · rfl
    · dsimp only; split <;> rfl
  cases c <;> cases p <;> simp [noticeShown, shown, slideHidden, navShown, navHidden]

@[simp] theorem noticeNotApplied_picture (e : ShowEntry) (s : State) : (noticeNotApplied e s).picture = s.picture := by
  unfold noticeNotApplied; split <;> simp

@[simp] theorem endTransition_picture (c : Ctx) (s : State) : (endTransition c s).picture = s.picture := by
  have complete (s : State) : (slideComplete s).picture = s.picture := by unfold slideComplete; split <;> rfl
  unfold endTransition
  split
  · cases c <;> simp [noticeComplete, complete]
  all_goals rfl

@[simp] theorem stepContext_picture (c : Ctx) (s : State) : (stepContext c s).picture = s.picture := by
  unfold stepContext
  split
  · split <;> simp
  all_goals rfl

@[simp] theorem applyAllPending_picture (s : State) : (applyAllPending s).picture = s.picture := by
  refine foldl_picture (fun s p => ?_) _ s
  unfold applyPending
  split
  · rfl
  · dsimp only; split_ifs <;> simp

@[simp] theorem resolveSchedule_picture (s : State) : (resolveSchedule s).picture = s.picture := by
  simp [resolveSchedule, foldl_picture, supersede]

@[simp] theorem applyWinnerOf_picture (w : Option (Nat × ShowEntry)) (s : State) :
    (applyWinnerOf w s).picture = s.picture := by
  have report (e s) : (reportShown e s).picture = s.picture := by unfold reportShown; dsimp only; split <;> rfl
  unfold applyWinnerOf
  split
  · unfold applyWinner; split <;> simp [acceptWinner, report]
  · rfl

@[simp] theorem engineStart_picture (s : State) : (engineStart s).picture = s.picture := by
  simp [engineStart, recomputeLive, runSchedule, stepContexts, applyScrolls, moveClock]

/-! ### The segments of the other owners -/

/-- Only Set Open, Palette, Output and Restart reach the palettes or the mixer (R12). -/
theorem takeSegment_picture {g : Segment} (hk : g.kind ∉ [Kind.setOpen, .palette, .output, .restart]) (s : State) :
    (takeSegment g s).picture = s.picture := by
  obtain ⟨k, b⟩ := g
  cases k with
  | objectData =>
    have held (k) : (endHeldLoad k s).picture = s.picture := by unfold endHeldLoad; split <;> rfl
    simp only [takeSegment, takeFragment]
    split
    · rfl
    · unfold requestLoad; split <;> simp [held]
    · unfold joinLoad
      dsimp only
      split
      · split <;> rfl
      · split <;> rfl
      all_goals rfl
  | objectDrop =>
    simp only [takeSegment, takeDrop, dropObject]
    split
    · rfl
    · split <;> rfl
  | page => simp only [takeSegment, takePage]; split <;> rfl
  | buttons => simp only [takeSegment, takeButtons]; split <;> rfl
  | animations => simp only [takeSegment, takeAnimations]; split <;> rfl
  | scroll =>
    simp only [takeSegment, takeScroll]
    split
    · rfl
    · split_ifs <;> rfl
  | showPage =>
    simp only [takeSegment, takeShow]
    split
    · rfl
    · split <;> simp
  | slideList =>
    simp only [takeSegment, takeSlideList, loadList]
    split
    · rfl
    · split_ifs <;> rfl
  | key =>
    simp only [takeSegment, takeKey, queueKey]
    split
    · rfl
    · split_ifs <;> rfl
  | flags => simp only [takeSegment, takeFlags]; split <;> simp
  | clock => simp only [takeSegment, takeClock]; split <;> rfl
  | slideControl =>
    have configure (c) : (slideConfigure c s).picture = s.picture := by unfold slideConfigure; split <;> rfl
    have arm : (slideArm s).picture = s.picture := by unfold slideArm; split <;> rfl
    have disarm : (slideDisarm s).picture = s.picture := by unfold slideDisarm; split <;> rfl
    simp only [takeSegment, takeSlideControl]
    split <;> simp [configure, arm, disarm]
  | statusRequest => simp only [takeSegment, takeStatus]; split <;> rfl
  | attentionMask => simp only [takeSegment, takeMask]; split <;> rfl
  | _ => exact absurd (by simp) hk

/-! ### The events of the other blocks -/

theorem completeFragment_picture (l : Load) (pos : Position) (code : List Byte) (s : State) :
    (completeFragment l pos code s).picture = s.picture := by
  unfold completeFragment
  split
  · rfl
  · split <;> rfl

theorem transitionDone_picture (c : Ctx) (s : State) : (transitionDone c s).picture = s.picture := by
  unfold transitionDone
  split
  · split <;> simp
  all_goals rfl

theorem activationDone_picture (c : NavCtx) (s : State) : (activationDone c s).picture = s.picture := by
  unfold activationDone
  split
  · split <;> simp
  · rfl

theorem playheadDone_picture (c : NavCtx) (i : Nat) (s : State) : (playheadDone c i s).picture = s.picture := by
  unfold playheadDone; dsimp only; split <;> rfl

theorem dwellDone_picture (s : State) : (dwellDone s).picture = s.picture := by
  unfold dwellDone
  split
  · split
    · split <;> simp
    all_goals rfl
  · rfl

theorem readyDone_picture (s : State) : (readyDone s).picture = s.picture := by
  unfold readyDone markReady
  split
  · split <;> rfl
  · rfl

theorem lateDone_picture (s : State) : (lateDone s).picture = s.picture := by
  unfold lateDone
  split
  · split <;> simp
  · rfl

end Sys2Proof.Machine
end

section
/-! PROOFS. What the segment port and the router keep: a property that neither the contents of the port, nor a report, nor
any owner of a segment breaks stands after every byte and every segment (1.1 to 1.4). -/

namespace Sys2Proof.Machine

open Sys2Proof

/-- A property that stands whatever the segment port holds and the report unit is told, and that every owner of a segment
keeps, as does the completion of a fragment. -/
structure Routed (P : State → Prop) : Prop where
  port : ∀ p {s}, P s → P (s.setPort p)
  raise : ∀ b {s}, P s → P (s.raise b)
  segment : ∀ g {s}, P s → P (takeSegment g s)
  fragment : ∀ l pos code {s}, P s → P (completeFragment l pos code s)

namespace Routed

variable {P : State → Prop} (hP : Routed P)
include hP

theorem drainContent (n : Nat) {s : State} (h : P s) : P (drainContent n s) := by
  induction n generalizing s with
  | zero => exact h
  | succ n ih =>
    unfold Machine.drainContent
    split
    · exact h
    · split
      · exact h
      · next g rest _ =>
        split
        · have hf : P (takeFragment g.body s) := hP.segment ⟨.objectData, g.body⟩ h
          dsimp only
          split
          · exact hf
          · exact ih (hP.port _ hf)
        · exact ih (hP.segment g (hP.port _ h))

theorem routeSegment (g : Segment) {s : State} (h : P s) : P (routeSegment g s) := by
  unfold Machine.routeSegment
  split
  · exact hP.segment g (hP.port _ h)
  · exact hP.drainContent _ (hP.port _ h)

theorem present (g : Segment) {s : State} (h : P s) : P (present g s) := by
  unfold Machine.present
  split
  · exact hP.raise _ (hP.port _ h)
  · exact hP.routeSegment g (hP.port _ h)

theorem discardSegment {s : State} (h : P s) : P (discardSegment s) := by
  rw [discardSegment_eq]; exact hP.port _ h

theorem openReception {s : State} (h : P s) : P (openReception s) := by
  unfold Machine.openReception
  split
  · exact hP.raise _ (hP.port _ h)
  · exact hP.port _ h

theorem huntByte (b : Byte) {s : State} (h : P s) : P (huntByte b s) := by
  unfold Machine.huntByte
  split_ifs
  · exact hP.port _ h
  · exact hP.openReception h
  · exact hP.port _ h

theorem afterDoubleFF (b : Byte) {s : State} (h : P s) : P (afterDoubleFF b s) := by
  have hd : P (Machine.discardSegment s) := hP.discardSegment h
  unfold Machine.afterDoubleFF
  split_ifs
  · exact hP.port _ h
  · unfold markerInside
    dsimp only
    split
    · exact hP.openReception (hP.raise _ hd)
    · exact hP.openReception (hP.raise _ hd)
    all_goals exact hP.openReception hd
  · exact hP.huntByte b (hP.raise _ hd)

theorem checkHeader (x : Header) (n : Fin 3) {s : State} (h : P s) : P (checkHeader x n s) := by
  have skip {s : State} (h : P s) : P (enterSkip x n s) := by rw [enterSkip_eq]; exact hP.port _ h
  unfold Machine.checkHeader
  split
  · exact hP.raise _ (hP.discardSegment h)
  · split
    · exact skip (hP.raise _ h)
    · split_ifs
      · exact skip (hP.raise _ h)
      · exact skip (hP.raise _ h)
      · exact hP.routeSegment _ (hP.port _ h)
      · exact hP.port _ h

theorem bodyByte (x : Header) (got : List Byte) (b : Byte) {s : State} (h : P s) : P (bodyByte x got b s) := by
  unfold Machine.bodyByte
  split
  · exact hP.huntByte b (hP.raise _ (hP.discardSegment h))
  · dsimp only
    split
    · exact hP.port _ h
    · split
      · exact hP.routeSegment _ (hP.port _ (hP.port _ h))
      · exact hP.discardSegment (hP.port _ h)

/-- A byte at the segment port (1.1 to 1.4). -/
theorem receiveByte (b : Byte) {s : State} (h : P s) : P (receiveByte b s) := by
  unfold Machine.receiveByte
  split
  · exact hP.huntByte b h
  · split
    · exact hP.afterDoubleFF b h
    · unfold headerByte
      dsimp only
      split
      · exact hP.port _ h
      · exact hP.checkHeader _ _ h
  · split
    · exact hP.afterDoubleFF b h
    · exact hP.bodyByte _ _ b h
  · split
    · exact hP.afterDoubleFF b h
    · unfold skipByte
      split <;> exact hP.port _ h

/-- FRAGMENT_COMPLETE, and the content that waited behind the fragment (R14, R43). -/
theorem fragmentDone {s : State} (h : P s) : P (fragmentDone s) := by
  unfold Machine.fragmentDone
  split
  · exact hP.drainContent _ (hP.port _ (hP.fragment _ _ _ h))
  all_goals exact h

end Routed

end Sys2Proof.Machine
end

section
/-! PROOFS. Every step keeps every stored colour legal (R55, R56, R58, R99). -/

namespace Sys2Proof.Machine

open Sys2Proof

/-! ### Legal colours and touched sets by themselves -/

/-- A clamped component lies in its range (R58, R99). -/
theorem clampByte_range {lo hi : Byte} (h : lo ≤ hi) (b : Byte) :
    lo.toNat ≤ (clampByte lo hi b).toNat ∧ (clampByte lo hi b).toNat ≤ hi.toNat := by
  unfold clampByte
  split_ifs <;> bv_omega

theorem legalColour_clamped (y cb cr : Byte) :
    LegalColour (clampByte 16 235 y) (clampByte 16 240 cb) (clampByte 16 240 cr) :=
  have hy : (16 : Byte) ≤ 235 := by decide
  have hc : (16 : Byte) ≤ 240 := by decide
  ⟨clampByte_range hy y, clampByte_range hc cb, clampByte_range hc cr⟩

/-- The members of a touched set have indexes 0–255, legal colours and rising indexes (R56). -/
structure Touched.Sound (t : Touched) : Prop where
  member : ∀ x ∈ t, x.1 < Config.paletteSize ∧ x.2.Legal
  rising : Rising t

theorem Touched.Sound.nil : Touched.Sound [] := ⟨fun _ h => (nomatch h), List.Pairwise.nil⟩

/-- The entries of a segment written into a touched set (R58). -/
theorem Touched.Sound.touch {t : Touched} (h : t.Sound) {l : List (Nat × Entry)}
    (hl : ∀ x ∈ l, x.1 < Config.paletteSize ∧ x.2.Legal) : Touched.Sound (touch t l) := by
  induction l generalizing t with
  | nil => exact h
  | cons e l ih =>
    refine ih ⟨fun x hx => ?_, putKey_rising _ _ h.rising⟩ fun x hx => hl x (.tail _ hx)
    obtain rfl | hx := mem_putKey hx
    · exact hl e (.head _)
    · exact h.member x hx

/-- What a touched set holds at an index is one of its members. -/
theorem mem_of_getKey {α : Type} {k : Nat} {v : α} {m : List (Nat × α)} (h : getKey k m = some v) : (k, v) ∈ m := by
  induction m with
  | nil => cases h
  | cons c m ih =>
    unfold getKey at h
    split at h
    · next hk => subst hk; cases h; exact .head _
    · exact .tail _ (ih h)

/-- The entries that a Palette segment carries (R57, R58). -/
theorem readPalette_entries {b : List Byte} {g : PaletteSegment} (h : readPalette b = some g) :
    ∀ x ∈ g.entries, x.1 < Config.paletteSize ∧ x.2.Legal := by
  unfold readPalette at h
  dsimp only at h
  split at h
  · split at h
    · cases h
      intro x hx
      obtain ⟨r, -, rfl⟩ := List.mem_map.mp hx
      exact ⟨(at8 r 0).isLt, legalColour_clamped _ _ _⟩
    · cases h
  · cases h

/-- The fill colour that an Output segment carries (R99). -/
theorem readOutput_fill {b : List Byte} {o : OutputSetting} (h : readOutput b = some o) : LegalPixel o.fill := by
  unfold readOutput at h
  dsimp only at h
  split at h
  · split at h <;> cases h <;> exact legalColour_clamped _ _ _
  · cases h

/-! ### The laws by palette unit and mixer -/

/-- The palette unit's share of the laws (R55, R56). -/
structure PaletteUnit.Lawful (u : PaletteUnit) : Prop where
  live : ∀ p ix, (u.entry p ix).Legal
  patch : u.patch.touched.Sound

/-- The mixer's share of the laws (R99). -/
structure Mixer.Lawful (m : Mixer) : Prop where
  fill : LegalPixel m.out.fill
  pendingFill : ∀ o, m.pendingOut = some o → LegalPixel o.fill

theorem colourInv_iff (s : State) : ColourInv s ↔ s.palette.Lawful ∧ s.mixer.Lawful :=
  ⟨fun h => ⟨⟨h.live, h.touched, h.rising⟩, h.fill, h.pendingFill⟩,
    fun ⟨u, m⟩ => ⟨u.live, u.patch.member, u.patch.rising, m.fill, m.pendingFill⟩⟩

theorem ColourInv.palette {s : State} (h : ColourInv s) : s.palette.Lawful := ((colourInv_iff s).mp h).1
theorem ColourInv.mixer {s : State} (h : ColourInv s) : s.mixer.Lawful := ((colourInv_iff s).mp h).2

/-- What leaves the palettes and the mixer alone keeps the laws. -/
theorem ColourInv.of_picture {s t : State} (h : ColourInv s) (hp : t.picture = s.picture) : ColourInv t := by
  rw [colourInv_iff, palette_of_picture hp, mixer_of_picture hp]
  exact ⟨h.palette, h.mixer⟩

theorem ColourInv.setPalette {s : State} (h : ColourInv s) {u : PaletteUnit} (hu : u.Lawful) :
    ColourInv (s.setPalette u) := (colourInv_iff _).mpr ⟨hu, h.mixer⟩

theorem ColourInv.setMixer {s : State} (h : ColourInv s) {m : Mixer} (hm : m.Lawful) : ColourInv (s.setMixer m) :=
  (colourInv_iff _).mpr ⟨h.palette, hm⟩

theorem ColourInv.setPatch {s : State} (h : ColourInv s) {x : Patch} (hx : x.touched.Sound) : ColourInv (s.setPatch x) :=
  h.setPalette ⟨h.live, hx⟩

/-- After a reset every entry is a legal black and no patch is open (R55, R56). -/
theorem PaletteUnit.reset_lawful : PaletteUnit.reset.Lawful := ⟨reset_colourInv.live, Touched.Sound.nil⟩

theorem Mixer.reset_lawful (l : List Pixel) : (Mixer.reset l).Lawful := ⟨reset_colourInv.fill, fun _ h => nomatch h⟩

theorem resetBlocks_colourInv (s : State) : ColourInv (resetBlocks s) :=
  (colourInv_iff _).mpr ⟨PaletteUnit.reset_lawful, Mixer.reset_lawful _⟩

/-! ### The palette unit (chapter 4) -/

theorem patchAfter_sound {t : Touched} (h : t.Sound) (p : PaletteId) (mode : ApplyMode) (time : FrameCount) :
    (patchAfter p t mode time).touched.Sound := by
  cases mode with
  | discard => exact .nil
  | _ => exact h

/-- A Palette segment, by the state of the patch (R60 to R62). -/
theorem takePalette_colourInv (b : List Byte) {s : State} (h : ColourInv s) : ColourInv (takePalette b s) := by
  have hp := h.palette.patch
  unfold takePalette
  split
  · exact h.of_picture rfl
  · next g hg =>
    have hl := readPalette_entries hg
    unfold applyPalette
    split
    · exact h.setPatch (patchAfter_sound (Touched.Sound.nil.touch hl) _ _ _)
    · next p t ht =>
      rw [ht] at hp
      split
      · exact h.setPatch (patchAfter_sound (hp.touch hl) _ _ _)
      · exact h.of_picture rfl
    · split
      · exact h.setPatch .nil
      · exact h.of_picture rfl

/-- An applied patch leaves legal entries and no patch (R63). -/
theorem PaletteUnit.Lawful.apply {u : PaletteUnit} (h : u.Lawful) {t : Touched} (ht : t.Sound) (p : PaletteId) :
    (u.apply p t).Lawful where
  live r ix := by
    rw [PaletteUnit.apply_entry]
    split
    · cases hk : getKey ix.toNat t with
      | none => exact h.live r ix
      | some e => exact (ht.member _ (mem_of_getKey hk)).2
    · exact h.live r ix
  patch := .nil

theorem paletteStart_colourInv {s : State} (h : ColourInv s) : ColourInv (paletteStart s) := by
  have ht : ColourInv (testPatch s.startFc s) := by
    have hp := h.palette.patch
    unfold testPatch
    split
    · next p t time hs =>
      rw [hs] at hp
      split
      · exact (h.setPalette (h.palette.apply hp p)).of_picture rfl
      · exact h
    all_goals exact h
  exact ht.of_picture rfl

/-! ### The mixer (chapter 6) -/

theorem takeOutput_colourInv (b : List Byte) {s : State} (h : ColourInv s) : ColourInv (takeOutput b s) := by
  unfold takeOutput
  split
  · exact h.of_picture rfl
  · next o ho => exact h.setMixer ⟨h.fill, fun x hx => Option.some.inj hx ▸ readOutput_fill ho⟩

/-- A pending output is applied at the frame start (R100). -/
theorem Mixer.Lawful.frameStart {m : Mixer} (h : m.Lawful) : m.frameStart.Lawful where
  fill := by
    unfold Mixer.frameStart
    cases ho : m.pendingOut with
    | none => exact h.fill
    | some o => exact h.pendingFill o ho
  pendingFill _ h := nomatch h

/-- A line changes neither the output setting nor a pending one. -/
theorem mixLine_colourInv (l : List Pixel) {s : State} (h : ColourInv s) : ColourInv (mixLine l s) := by
  unfold mixLine
  split
  · exact h.setMixer ⟨h.fill, h.pendingFill⟩
  · split <;> exact h.setMixer ⟨h.fill, h.pendingFill⟩

theorem mixerEnd_colourInv {s : State} (h : ColourInv s) : ColourInv (mixerEnd s) := by
  have overload : ColourInv (reportOverload s) := by
    unfold reportOverload
    split
    · exact h.of_picture rfl
    · exact h
  have raster (old) {s : State} (h : ColourInv s) : ColourInv (reportRaster old s) := by
    unfold reportRaster
    split
    · exact h
    · split
      · exact h.of_picture rfl
      · exact h.of_picture rfl
      · exact h
  unfold mixerEnd
  split
  · exact h
  · exact raster _ (overload.setMixer ⟨overload.fill, overload.pendingFill⟩)

/-! ### Every command -/

/-- Every owner of a segment keeps the laws (R12). -/
theorem takeSegment_colourInv (g : Segment) {s : State} (h : ColourInv s) : ColourInv (takeSegment g s) := by
  by_cases hk : g.kind ∈ [Kind.setOpen, .palette, .output, .restart]
  · obtain ⟨k, b⟩ := g
    simp only [List.mem_cons, List.not_mem_nil, or_false] at hk
    obtain rfl | rfl | rfl | rfl := hk
    · simp only [takeSegment, takeSetOpen]
      split
      · exact h.of_picture rfl
      · exact (h.setPalette PaletteUnit.reset_lawful).of_picture (by simp [setOpen, State.picture, PaletteUnit.setOpen])
    · exact takePalette_colourInv b h
    · exact takeOutput_colourInv b h
    · simp only [takeSegment, takeRestart]
      split
      · exact (resetBlocks_colourInv s).of_picture rfl
      · exact h.of_picture rfl
  · exact h.of_picture (takeSegment_picture hk s)

/-- No byte and no segment breaks the laws. -/
theorem colourInv_routed : Routed ColourInv where
  port _ _ h := h.of_picture rfl
  raise _ _ h := h.of_picture rfl
  segment g _ h := takeSegment_colourInv g h
  fragment l pos code s h := h.of_picture (completeFragment_picture l pos code s)

theorem unlessHeld_colourInv_of_picture {f : State → State} {s : State} (hf : (f s).picture = s.picture)
    (h : ColourInv s) : ColourInv (unlessHeld f s) := unlessHeld_keeps (fun h => h.of_picture hf) h

/-- Every command keeps the colours legal. -/
theorem exec_colourInv {s t : State} (h : ColourInv s) (c : Instr) (he : exec c s = .next t) : ColourInv t := by
  cases hg : segmentOf c with
  | some g =>
    obtain rfl := Host.Outcome.next.inj ((exec_segmentOf hg s).symm.trans he)
    exact unlessHeld_keeps (colourInv_routed.present g) h
  | none =>
    cases c with
    | segmentByte b => cases he; exact unlessHeld_keeps (colourInv_routed.receiveByte b) h
    | fragmentComplete => cases he; exact unlessHeld_keeps colourInv_routed.fragmentDone h
    | engineFrameStart => cases he; exact unlessHeld_colourInv_of_picture (engineStart_picture s) h
    | transitionEnd x => cases he; exact unlessHeld_colourInv_of_picture (transitionDone_picture x s) h
    | storeFrameStart => cases he; exact unlessHeld_colourInv_of_picture (setStore_picture s _) h
    | paletteFrameStart => cases he; exact unlessHeld_keeps paletteStart_colourInv h
    | mixerFrameStart => cases he; exact unlessHeld_keeps (fun h => h.setMixer h.mixer.frameStart) h
    | line l =>
      cases he
      split
      · exact h.setMixer ⟨h.fill, h.pendingFill⟩
      · exact mixLine_colourInv l h
    | mixerFrameEnd => cases he; exact unlessHeld_keeps (fun h => (mixerEnd_colourInv h).of_picture rfl) h
    | storeFrameEnd => cases he; exact unlessHeld_colourInv_of_picture (by simp [settleSkew]) h
    | navFrameEnd => cases he; exact unlessHeld_colourInv_of_picture (by simp [settleSkew]) h
    | activationExpiry x => cases he; exact unlessHeld_colourInv_of_picture (activationDone_picture x s) h
    | playheadStep x i => cases he; exact unlessHeld_colourInv_of_picture (playheadDone_picture x i s) h
    | sequencerFrameEnd => cases he; exact unlessHeld_colourInv_of_picture (by simp [settleSkew]) h
    | dwellExpiry => cases he; exact unlessHeld_colourInv_of_picture (dwellDone_picture s) h
    | slideReady => cases he; exact unlessHeld_colourInv_of_picture (readyDone_picture s) h
    | lateSlide => cases he; exact unlessHeld_colourInv_of_picture (lateDone_picture s) h
    | timeTrigger => cases he; exact unlessHeld_colourInv_of_picture (testTime_picture s) h
    | readStrobe => cases he; exact h.of_picture (by split <;> rfl)
    | resetNAsserted => cases he; exact (resetBlocks_colourInv s).of_picture rfl
    | resetNReleased =>
      cases he
      unfold releaseReset
      split
      · exact (resetBlocks_colourInv s).of_picture rfl
      · exact h
    | _ => exact nomatch hg

/-- Settles O28: every command keeps the laws, whatever waits behind it. -/
theorem colourLawsKept : Obligations.ColourLawsKept := by
  intro s t h hs
  unfold step at hs
  split at hs
  · cases hs; exact h
  · next c rest _ =>
    have h' : ColourInv { s with pending := rest } := h.of_picture rfl
    exact exec_colourInv h' c hs

end Sys2Proof.Machine
end

section
/-! PROOFS. The palette unit's own commands: a Palette segment by the state of the patch, and the frame start that applies
a scheduled patch (R57 to R63). -/

namespace Sys2Proof.Machine

open Sys2Proof

/-! ### The body of a Palette segment, read back (11.3) -/

theorem entryBytes_cons (x : Byte × Entry) (es : List (Byte × Entry)) :
    entryBytes (x :: es) = [x.1, x.2.y, x.2.cb, x.2.cr, x.2.a] ++ entryBytes es := List.flatMap_cons

theorem entryBytes_length (es : List (Byte × Entry)) : (entryBytes es).length = 5 * es.length := by
  induction es with
  | nil => rfl
  | cons x es ih => rw [entryBytes_cons, List.length_append, ih, List.length_cons, List.length_cons]; simp; omega

/-- A palette entry clamped into the legal ranges, with its index (R58). -/
def clampedEntry (x : Byte × Entry) : Nat × Entry :=
  (x.1.toNat,
    { y := clampByte 16 235 x.2.y, cb := clampByte 16 240 x.2.cb, cr := clampByte 16 240 x.2.cr, a := x.2.a })

theorem records_entryBytes (es : List (Byte × Entry)) :
    (records 5 es.length (entryBytes es)).map readEntry = es.map clampedEntry := by
  induction es with
  | nil => rfl
  | cons x es ih => rw [entryBytes_cons, List.map_cons, ← ih]; rfl

/-- A big-endian 32-bit field gives back the value it was made from. -/
theorem append_bytes32 (w : BitVec 32) :
    ((w.extractLsb' 24 8 ++ w.extractLsb' 16 8 : Half) ++ (w.extractLsb' 8 8 ++ w.extractLsb' 0 8 : Half) : BitVec 32) = w := by
  have hw := w.isLt
  apply BitVec.eq_of_toNat_eq
  simp only [toNat_append_add, extractLsb'_eq_ofNat, BitVec.toNat_ofNat]
  omega

theorem readMode_code (mode : ApplyMode) {c : Byte} (h : c.toNat / 16 % 8 = mode.code.toNat) : readMode c = some mode := by
  unfold readMode
  rw [h]
  cases mode <;> rfl

/-- A Palette body is read as what its command spells, with the entries clamped (R57, R58). -/
theorem readPalette_paletteBody (mode : ApplyMode) (q : PaletteId) (time : FrameCount) {es : List (Byte × Entry)}
    (hes : es.length ≤ 256) :
    readPalette (paletteBody mode (BitVec.ofNat 4 q.val) (BitVec.ofNat 9 es.length) time (entryBytes es)) =
      some { palette := q, mode := mode, time := time, entries := es.map clampedEntry } := by
  have hq : q.val < 8 := q.isLt
  have hm := mode.code.isLt
  let body := paletteBody mode (BitVec.ofNat 4 q.val) (BitVec.ofNat 9 es.length) time (entryBytes es)
  have ctrl : (at8 body 0).toNat = 128 * (es.length / 256) + 16 * mode.code.toNat + q.val := by
    show (BitVec.extractLsb' 8 1 _ ++ mode.code ++ _ : Byte).toNat = _
    rw [paletteControl_eq, BitVec.toNat_ofNat, BitVec.toNat_ofNat, BitVec.toNat_ofNat]
    omega
  have low : (at8 body 1).toNat = es.length % 256 := by
    show (BitVec.extractLsb' 0 8 _ : Byte).toNat = _
    rw [extractLsb'_eq_ofNat, BitVec.toNat_ofNat, BitVec.toNat_ofNat]
    omega
  have count : (at8 body 0).toNat / 128 * 256 + (at8 body 1).toNat = es.length := by rw [ctrl, low]; omega
  have hlen : body.length = 6 + 5 * es.length := by rw [paletteBody_length, entryBytes_length]
  have hid : finOf? Config.numPalettes ((at8 body 0).toNat % 16) = some q := by
    rw [show (at8 body 0).toNat % 16 = q.val by rw [ctrl]; omega]
    exact dif_pos q.isLt
  have hmode : readMode (at8 body 0) = some mode := readMode_code mode (by rw [ctrl]; omega)
  have htime : at32 body 2 = time := append_bytes32 time
  have hrest : body.drop 6 = entryBytes es := rfl
  show readPalette body = _
  unfold readPalette
  dsimp only
  rw [count, if_pos ⟨hlen, hes⟩, hid, hmode, htime, hrest, records_entryBytes]

/-! ### A Palette segment (R57 to R62) -/

/-- Settles O26, by the state of the patch. -/
theorem paletteSegmentTaken : Obligations.PaletteSegmentTaken := by
  intro mode q time es s hes ht v clamped follow written
  have hlen := (paletteBody_length mode (BitVec.ofNat 4 q.val) (BitVec.ofNat 9 es.length) time (entryBytes es)).trans
    (congrArg (6 + ·) (entryBytes_length es))
  have he : exec (paletteCommand mode (BitVec.ofNat 4 q.val) (BitVec.ofNat 9 es.length) time (entryBytes es)) s =
      .next (applyPalette { palette := q, mode := mode, time := time, entries := clamped } v) := by
    rw [exec_content_free (segmentOf_paletteCommand ..) rfl (by simp) (by rw [hlen]; exact ht)]
    simp only [takeSegment, takePalette, readPalette_paletteBody mode q time hes, hlen]
    rfl
  have hfollow (t : Touched) : patchAfter q (touch t clamped) mode time = follow (written t) := by cases mode <;> rfl
  have hpatch : v.palette = s.palette := rfl
  rw [he, applyPalette, hpatch]
  cases hp : s.palette.patch with
  | closed => simp only [hfollow]; rfl
  | collecting p t =>
    by_cases hqp : q = p
    · subst hqp; simp only [hfollow, if_true]; rfl
    · simp only [if_neg hqp]
  | scheduled p t x =>
    by_cases hqp : q = p ∧ mode = .discard
    · simp only [if_pos hqp]; rfl
    · simp only [if_neg hqp]

/-! ### The palette unit's frame start (R63) -/

/-- A patch that is not scheduled stands. -/
theorem testPatch_unscheduled {s : State} (h : ∀ p t x, s.palette.patch ≠ .scheduled p t x) (fc : FrameCount) :
    testPatch fc s = s := by
  unfold testPatch
  split
  · next p t x hs => exact absurd hs (h p t x)
  all_goals rfl

theorem testPatch_scheduled {s : State} {p : PaletteId} {t : Touched} {x : ApplyTime}
    (h : s.palette.patch = .scheduled p t x) (fc : FrameCount) :
    testPatch fc s =
      if x.come fc then (s.setPalette (s.palette.apply p t)).raiseAt fc (.patchApplied p t.length) else s := by
  unfold testPatch; rw [h]

/-- The palette unit and the report unit alone take part. -/
theorem testPatch_eq (fc : FrameCount) (s : State) :
    testPatch fc s = { s with palette := (testPatch fc s).palette, report := (testPatch fc s).report } := by
  unfold testPatch
  split
  · split <;> rfl
  all_goals rfl

theorem ApplyTime.come_nextFrame (fc : FrameCount) : ApplyTime.nextFrame.come fc = true := rfl

/-- A time has come where it is due (R63, R69). -/
theorem ApplyTime.come_atTime (fc t : FrameCount) : (ApplyTime.atTime t).come fc = true ↔ (fc - t).toNat < 2 ^ 31 :=
  decide_eq_true_iff

/-- A patch whose time has come is written into its palette and closes, and PATCH-APPLIED is raised; until then the
palettes and the patch stand (R63). `come` says in other terms that its time has come. -/
theorem paletteStart_scheduled {s : State} {p : PaletteId} {t : Touched} {x : ApplyTime}
    (h : s.palette.patch = .scheduled p t x) {come : Prop} (hcome : come ↔ x.come s.startFc = true) :
    (come → (paletteStart s).palette.patch = .closed ∧
      (paletteStart s).report = s.report.enqueue s.startFc (.patchApplied p t.length) ∧
      ∀ r ix, (paletteStart s).palette.entry r ix =
        if r = p then (getKey ix.toNat t).getD (s.palette.entry r ix) else s.palette.entry r ix) ∧
    (¬come → (paletteStart s).palette = s.palette ∧ (paletteStart s).report = s.report) := by
  rw [hcome, paletteStart, testPatch_scheduled h]
  refine ⟨fun hx => ?_, fun hx => ?_⟩
  · rw [if_pos hx]
    exact ⟨rfl, rfl, fun r ix => PaletteUnit.apply_entry _ p r t ix⟩
  · rw [if_neg hx]
    exact ⟨rfl, rfl⟩

theorem paletteStart_unscheduled {s : State} (h : ∀ p t x, s.palette.patch ≠ .scheduled p t x) :
    (paletteStart s).palette = s.palette ∧ (paletteStart s).report = s.report := by
  rw [paletteStart, testPatch_unscheduled h]
  exact ⟨rfl, rfl⟩

/-- Settles O27, by the state of the patch and whether its time has come. -/
theorem patchAppliesAtFrameStart : Obligations.PatchAppliesAtFrameStart := by
  intro s hl
  refine ⟨paletteStart s, congrArg _ (if_neg (by rw [hl]; decide)), ?_⟩
  intro fc
  have hfc : fc = s.startFc := by
    simp only [fc, State.startFc]
    cases s.skew <;> rfl
  clear_value fc
  subst hfc
  refine ⟨?_, ?_⟩
  · rw [paletteStart, testPatch_eq]
    cases s.skew <;> rfl
  cases hp : s.palette.patch with
  | scheduled p touched time =>
    cases time with
    | nextFrame => exact paletteStart_scheduled hp (iff_of_true trivial (ApplyTime.come_nextFrame _))
    | atTime x => exact paletteStart_scheduled hp (ApplyTime.come_atTime _ x).symm
  | _ => exact paletteStart_unscheduled (by simp [hp])

end Sys2Proof.Machine
end

section
/-! PROOFS. Legal video stays legal: fades and effective alphas are factors of 0–255, a blended component lies between the
two it mixes, and so a composed line over legal pixels is legal (R91, R109, R110). -/

namespace Sys2Proof.Machine

open Sys2Proof

/-! ### Fades and alphas (R91, R109) -/

theorem crossfadeStep_le {n j : Nat} (h1 : 1 ≤ j) (hn : j ≤ n) : crossfadeStep n j ≤ 255 := by
  refine Nat.le_of_lt_succ ((Nat.div_lt_iff_lt_mul (by omega)).mpr ?_)
  omega

theorem effectiveAlpha_le {a o f : Nat} (ha : a ≤ 255) (ho : o ≤ 255) (hf : f ≤ 255) : effectiveAlpha a o f ≤ 255 := by
  have h : a * o * f ≤ 255 * 255 * 255 := Nat.mul_le_mul (Nat.mul_le_mul ha ho) hf
  unfold effectiveAlpha
  omega

/-- Every side of a sound context fades by a factor of 0–255 (R80, R91). -/
theorem sidesOf_fade {x : CtxState} (hx : x.Sound) {w copy : Nat} : ∀ d ∈ sidesOf x w copy, d.fade ≤ 255 := by
  intro d hd
  cases x with
  | empty => cases hd
  | showing p =>
    obtain rfl := List.mem_singleton.mp hd
    exact le_rfl
  | transition i o k n j =>
    obtain ⟨h1, hn, -, -⟩ := hx
    have hg := crossfadeStep_le h1 hn
    cases k <;> simp only [sidesOf, List.mem_append, List.mem_map] at hd <;> obtain ⟨p, -, rfl⟩ | ⟨p, -, rfl⟩ := hd
    · exact hg
    · exact Nat.sub_le _ _
    all_goals exact le_rfl

/-! ### The spans of a line carry the fade of their side (R105 to R107) -/

theorem mem_mapAt {α β : Type} {f : Nat → α → β} {i : Nat} {l : List α} {y : β} (h : y ∈ mapAt f i l) :
    ∃ j, ∃ x ∈ l, y = f j x := by
  induction l generalizing i with
  | nil => cases h
  | cons x l ih =>
    obtain rfl | h := List.mem_cons.mp h
    · exact ⟨i, x, .head _, rfl⟩
    · obtain ⟨j, x', hx, rfl⟩ := ih h
      exact ⟨j, x', .tail _ hx, rfl⟩

theorem spanOf_fade {pl : Placement} {v : Version} {y : Nat} {cols : Columns} {fade : Nat} {sp : Span}
    (h : spanOf pl v y cols fade = some sp) : sp.fade = fade := by
  unfold spanOf at h
  dsimp only at h
  split at h
  · cases h; rfl
  · cases h

theorem candidateOf_fade {s : State} {c : Ctx} {p : PageId} {y : Nat} {cols : Columns} {fade j : Nat} {pl : Placement}
    {sp : Span} (h : candidateOf s c p y cols fade j pl = some sp) : sp.fade = fade := by
  unfold candidateOf at h
  split at h
  · split at h
    · cases h
    · cases h
    · split at h
      · exact spanOf_fade h
      · cases h
  · cases h

theorem pageCandidates_fade {s : State} {c : Ctx} {p : PageId} {y : Nat} {cols : Columns} {fade : Nat} {sp : Span}
    (h : sp ∈ pageCandidates s c p y cols fade) : sp.fade = fade := by
  obtain ⟨x, hx, hs⟩ := List.mem_filterMap.mp h
  obtain ⟨j, pl, -, rfl⟩ := mem_mapAt (List.mem_reverse.mp hx)
  exact candidateOf_fade hs

theorem lineCandidates_fade {s : State} (h : ∀ c, (s.engine.contexts.get c).Sound) {y : Nat} {sp : Span}
    (hs : sp ∈ lineCandidates s y) : sp.fade ≤ 255 := by
  have context {c} (hc : sp ∈ contextCandidates s c y) : sp.fade ≤ 255 := by
    obtain ⟨d, hd, hp⟩ := List.mem_flatMap.mp hc
    exact pageCandidates_fade hp ▸ sidesOf_fade (h c) d hd
  simp only [lineCandidates, List.mem_append] at hs
  obtain (hs | hs) | hs := hs <;> exact context hs

/-- Admission adds no span of its own (R107). -/
theorem mem_admitSpans {w : Nat} {l : List Span} {sp : Span} (h : sp ∈ (admitSpans w l).spans) : sp ∈ l := by
  have fold (l : List Span) (a : Admission) (h : sp ∈ (l.foldl (admitOne w) a).spans) : sp ∈ a.spans ∨ sp ∈ l := by
    induction l generalizing a with
    | nil => exact .inl h
    | cons x l ih =>
      obtain h | h := ih _ h
      · unfold admitOne at h
        split at h
        · obtain rfl | h := List.mem_cons.mp h
          · exact .inr (.head _)
          · exact .inl h
        · exact .inl h
      · exact .inr (.tail _ h)
  exact (fold l _ h).resolve_left (nomatch ·)

/-! ### Blending legal colours (R110) -/

/-- A blended component lies in every range that holds the two it mixes. -/
theorem blendComponent_range {alpha p c lo hi : Nat} (ha : alpha ≤ 255) (hp : lo ≤ p ∧ p ≤ hi) (hc : lo ≤ c ∧ c ≤ hi) :
    lo ≤ blendComponent alpha p c ∧ blendComponent alpha p c ≤ hi := by
  have mixed (x : Nat) : alpha * x + (255 - alpha) * x = 255 * x := by rw [← Nat.add_mul]; congr 1; omega
  have hlo := Nat.add_le_add (Nat.mul_le_mul_left alpha hp.1) (Nat.mul_le_mul_left (255 - alpha) hc.1)
  have hhi := Nat.add_le_add (Nat.mul_le_mul_left alpha hp.2) (Nat.mul_le_mul_left (255 - alpha) hc.2)
  rw [mixed] at hlo hhi
  unfold blendComponent
  omega

theorem blendPixel_legal {alpha : Nat} (ha : alpha ≤ 255) {e : Entry} (he : e.Legal) {c : Pixel} (hc : LegalPixel c) :
    LegalPixel (blendPixel alpha e c) := by
  have component {p c : Byte} {lo hi : Nat} (hp : lo ≤ p.toNat ∧ p.toNat ≤ hi) (hc : lo ≤ c.toNat ∧ c.toNat ≤ hi)
      (hhi : hi < 256) : lo ≤ (byteOf (blendComponent alpha p.toNat c.toNat)).toNat ∧
        (byteOf (blendComponent alpha p.toNat c.toNat)).toNat ≤ hi := by
    have h := blendComponent_range ha hp hc
    rwa [byteOf, BitVec.toNat_ofNat, Nat.mod_eq_of_lt (h.2.trans_lt hhi)]
  obtain ⟨ey, ecb, ecr⟩ := he
  obtain ⟨cy, ccb, ccr⟩ := hc
  exact ⟨component ey cy (by decide), component ecb ccb (by decide), component ecr ccr (by decide)⟩

theorem drawSpan_legal {m : Memory} {pal : PaletteUnit} (hpal : ∀ p ix, (pal.entry p ix).Legal) {sp : Span}
    (hf : sp.fade ≤ 255) (x : Nat) {c : Pixel} (hc : LegalPixel c) : LegalPixel (drawSpan m pal x c sp) := by
  unfold drawSpan
  split
  · exact blendPixel_legal (effectiveAlpha_le (Nat.le_of_lt_succ (BitVec.isLt _)) (Nat.le_of_lt_succ (BitVec.isLt _)) hf)
      (hpal _ _) hc
  · exact hc

/-! ### A line (R98, R101, R110) -/

theorem startPixel_legal {o : OutputSetting} (ho : LegalPixel o.fill) {p : Pixel} (hp : LegalPixel p) :
    LegalPixel (startPixel o p) := by
  unfold startPixel
  split
  · exact ho
  all_goals exact hp

theorem composePixel_legal {s : State} (h : ColourInv s) {spans : List Span} (hf : ∀ sp ∈ spans, sp.fade ≤ 255)
    (x : Nat) {p : Pixel} (hp : LegalPixel p) : LegalPixel (composePixel s spans x p) := by
  have drawn (c : Pixel) (hc : LegalPixel c) : LegalPixel (spans.foldl (drawSpan s.mem s.palette x) c) := by
    induction spans generalizing c with
    | nil => exact hc
    | cons sp spans ih =>
      exact ih (fun x hx => hf x (.tail _ hx)) _ (drawSpan_legal h.live (hf sp (.head _)) x hc)
  unfold composePixel
  split
  · exact drawn _ (startPixel_legal h.fill hp)
  · exact hp

theorem mixLine_legal {s : State} (hc : ColourInv s) (he : EngineInv s) {l : List Pixel} (hl : ∀ p ∈ l, LegalPixel p) :
    ∀ p ∈ (mixLine l s).mixer.videoOut, LegalPixel p := by
  unfold mixLine
  split
  · exact hl
  · split
    · intro p hp
      obtain ⟨x, q, hq, rfl⟩ := mem_mapAt hp
      exact composePixel_legal hc (fun sp hs => lineCandidates_fade he.contexts (mem_admitSpans hs)) x (hl q hq)
    · exact hl

/-- Settles O43. A held part passes the line (R114). -/
theorem legalVideoStaysLegal : Obligations.LegalVideoStaysLegal := by
  intro l s t hc he hl hx
  obtain rfl := Host.Outcome.next.inj hx
  split
  · exact hl
  · exact mixLine_legal hc he hl

end Sys2Proof.Machine
end

section
/-! PROOFS. The line mixer's own commands: a frame opened and closed with its reports, and a line that passes or is
composed (R96 to R101, R107, R108, R111, R112). -/

namespace Sys2Proof.Machine

open Sys2Proof

/-- A command that a part out of reset takes. -/
theorem unlessHeld_high {s : State} (h : s.resetLow = false) (f : State → State) : unlessHeld f s = f s :=
  if_neg (by rw [h]; decide)

/-! ### The end of a frame (R97, R112) -/

/-- The raster state that a closed frame leaves is one of the two that measurement gives (R97). -/
theorem Mixer.closeFrame_eq (m : Mixer) (f : OpenFrame) :
    m.closeFrame f =
      let w := f.width.getD 0
      let ok := decide (320 ≤ w ∧ w ≤ 1920 ∧ 240 ≤ f.lines ∧ f.lines ≤ 1080)
      { m with
        raster := if ok then .valid else .invalid, width := w, height := f.lines, frame := none
        overload := decide (0 < m.dropSpans) } := by
  simp only [Mixer.closeFrame, rasterOf, decide_eq_true_eq]

theorem reportOverload_eq (s : State) :
    reportOverload s = s.setReport
      (if 0 < s.mixer.dropSpans ∧ s.mixer.overload = false then
        s.report.enqueue s.engine.fc (.overload s.mixer.dropLines s.mixer.dropSpans)
      else s.report) := by
  unfold reportOverload
  split <;> rfl

/-- A measured raster is VALID or INVALID, and a change of the raster state raises the report of the new one (R97). -/
theorem reportRaster_measured {s : State} {ok : Bool} (h : s.mixer.raster = if ok then .valid else .invalid)
    (old : RasterState) :
    reportRaster old s = s.setReport
      (if s.mixer.raster = old then s.report
      else s.report.enqueue s.engine.fc
        (if ok then .rasterOk s.mixer.width s.mixer.height else .rasterBad s.mixer.width s.mixer.height)) := by
  unfold reportRaster
  split
  · rfl
  · rw [h]
    cases ok <;> rfl

theorem mixerEnd_of_frame_none {s : State} (h : s.mixer.frame = none) : mixerEnd s = s := by
  unfold mixerEnd
  rw [h]

/-- The end of an open frame: OVERLOAD is raised before the raster's report (R97, R112). -/
theorem mixerEnd_open {s : State} {f : OpenFrame} (h : s.mixer.frame = some f) :
    mixerEnd s = reportRaster s.mixer.raster ((reportOverload s).setMixer (s.mixer.closeFrame f)) := by
  unfold mixerEnd
  rw [h, reportOverload_eq]
  rfl

/-- Settles O40. At a frame end the raster that closing the frame leaves is the measured one, so one of the two raster
reports belongs to it. -/
theorem mixerFrames : Obligations.MixerFrames := by
  refine ⟨fun s hs => ?_, fun s hs => ⟨fun hf => ?_, fun f hf => ?_⟩⟩
  · refine congrArg _ ((unlessHeld_high hs _).trans ?_)
    unfold Mixer.frameStart
    cases s.mixer.pendingOut <;> rfl
  · refine congrArg _ ((unlessHeld_high hs _).trans ?_)
    rw [mixerEnd_of_frame_none hf]
    rfl
  · intro w h ok new r1 r2
    refine congrArg _ ((unlessHeld_high hs _).trans ?_)
    rw [mixerEnd_open hf, reportOverload_eq, Mixer.closeFrame_eq, reportRaster_measured (ok := ok) rfl]
    rfl

/-! ### Lists changed place by place -/

theorem mapAt_eq_mapIdx {α β : Type} (f : Nat → α → β) (i : Nat) (l : List α) :
    mapAt f i l = l.mapIdx fun j => f (i + j) := by
  induction l generalizing i with
  | nil => rfl
  | cons x l ih =>
    rw [mapAt, ih, List.mapIdx_cons]
    simp only [Nat.add_right_comm, Nat.add_assoc, Nat.add_zero]

theorem mapAt_zero_eq_mapIdx {α β : Type} (f : Nat → α → β) (l : List α) : mapAt f 0 l = l.mapIdx f := by
  simp only [mapAt_eq_mapIdx, Nat.zero_add]

/-! ### A line (R96, R98, R101) -/

theorem exec_line_high {s : State} (h : s.resetLow = false) (l : List Pixel) : exec (.line l) s = .next (mixLine l s) :=
  congrArg Host.Outcome.next (if_neg (by rw [h]; decide))

theorem mixLine_of_frame_none {s : State} (h : s.mixer.frame = none) (l : List Pixel) :
    mixLine l s = s.setMixer { s.mixer with videoOut := l } := by
  unfold mixLine
  rw [h]

theorem Mixer.composes_iff (m : Mixer) (y : Nat) :
    m.composes y = true ↔ m.out.mode ≠ .pass ∧ m.raster = .valid ∧ y < m.height := by
  simp only [Mixer.composes, Bool.and_eq_true, beq_iff_eq, bne_iff_ne, decide_eq_true_eq]
  tauto

theorem mixLine_passes {s : State} {f : OpenFrame} (h : s.mixer.frame = some f)
    (hc : ¬ s.mixer.composes f.lines = true) (l : List Pixel) :
    mixLine l s = s.setMixer { s.mixer.countLine f l.length 0 with videoOut := l } := by
  unfold mixLine
  rw [h]
  exact if_neg hc

theorem mixLine_composes {s : State} {f : OpenFrame} (h : s.mixer.frame = some f)
    (hc : s.mixer.composes f.lines = true) (l : List Pixel) :
    mixLine l s = s.setMixer
      { s.mixer.countLine f l.length (admitSpans s.mixer.width (lineCandidates s f.lines)).dropped with
        videoOut := l.mapIdx (composePixel s (admitSpans s.mixer.width (lineCandidates s f.lines)).spans) } := by
  unfold mixLine
  rw [h, ← mapAt_zero_eq_mapIdx]
  exact if_pos hc

/-- A line without drops leaves a drop count that is within its stop. -/
theorem Mixer.countLine_noDrops {m : Mixer} (h : m.dropSpans ≤ 65535) (f : OpenFrame) (n : Nat) :
    m.countLine f n 0 =
      { m with frame := some { lines := stop16 (f.lines + 1), width := some (f.width.getD (stop16 n)) } } := by
  unfold Mixer.countLine
  rw [if_pos rfl, show stop16 (m.dropSpans + 0) = m.dropSpans from Nat.min_eq_left h]

theorem startPixel_eq (o : OutputSetting) (p : Pixel) : startPixel o p = if o.mode = .fill then o.fill else p := by
  unfold startPixel
  cases o.mode <;> rfl

/-- Settles O41, by whether a frame is open and whether the mixer composes its line. -/
theorem lineResult : Obligations.LineResult := by
  refine ⟨fun l s hs => ⟨fun hf => ?_, fun f hf hp hd => ?_⟩, fun l f s hs hf hm hr hy => ?_⟩
  · rw [exec_line_high hs, mixLine_of_frame_none hf]
    rfl
  · have hc : ¬ s.mixer.composes f.lines = true := by
      rw [Mixer.composes_iff]
      rintro ⟨hm, hr, hy⟩
      obtain hp | hp | hp := hp
      exacts [hm hp, hp hr, absurd hy (Nat.not_lt.mpr hp)]
    rw [exec_line_high hs, mixLine_passes hf hc, Mixer.countLine_noDrops hd]
    rfl
  · intro a
    have hc : s.mixer.composes f.lines = true := (Mixer.composes_iff _ _).mpr ⟨hm, hr, hy⟩
    refine ⟨l.mapIdx (composePixel s a.spans), List.length_mapIdx, fun x hx => ?_, ?_⟩
    · rw [List.getElem?_mapIdx, List.getElem?_eq_getElem hx, ← startPixel_eq]
      rfl
    · rw [exec_line_high hs, mixLine_composes hf hc]
      rfl

end Sys2Proof.Machine
end

section
/-! PROOFS. The navigation unit's own commands but for its frame end: Flags, Key and a playhead that runs out (R117, R118,
R126, R131, R150). -/

namespace Sys2Proof.Machine

open Sys2Proof

/-! ### Flags (R117, R118) -/

/-- A write of the flags word that changes it sets the mark and tells the sequencer; one that does not is nothing. -/
theorem writeFlags_eq_rule (new : Half) (s : State) :
    writeFlags new s =
      if new = s.nav.flags then s
      else State.hear { s with nav := { s.nav with flags := new, flagsChanged := true } }
        (flagsByRule (fun p => (s.engine.page p).defined) s.engine.fc new s.seq s.report) := by
  unfold writeFlags
  split
  · rfl
  · rw [flagsNotice_eq_rule]; rfl

theorem takeFlags_four (s1 s0 c1 c0 : Byte) (s : State) :
    takeFlags [s1, s0, c1, c0] s = writeFlags ((s.nav.flags &&& ~~~(c1 ++ c0)) ||| (s1 ++ s0)) s := rfl

/-! ### Key (R131) -/

/-- A Key body of three bytes with a legal flag byte is its key with its number byte, unless it is a NUMBER outside 1–99. -/
theorem takeKey_three {code n r : Byte} {key : Key} (hk : readKeyCode code = some key) (hr : r = 0 ∨ r = 1) (s : State) :
    takeKey [code, n, r] s =
      if key = .number ∧ (n = 0 ∨ 99 < n.toNat) then s.raise (.malformed 0x20 3)
      else queueKey { key := key, number := n, rep := r == 1 } s := by
  have outside : ¬(1 ≤ n.toNat ∧ n.toNat ≤ 99) ↔ n = 0 ∨ 99 < n.toNat := by
    rw [byte_eq_iff n 0, show (0 : Byte).toNat = 0 from rfl]; omega
  have flag : readFlag r = some (r == 1) := by rcases hr with rfl | rfl <;> rfl
  have read : readKey [code, n, r] =
      if key = .number ∧ (n = 0 ∨ 99 < n.toNat) then none else some { key := key, number := n, rep := r == 1 } := by
    simp only [readKey, at8, List.length_cons, List.length_nil, List.getD_cons_zero, List.getD_cons_succ, hk, flag, outside,
      ↓reduceIte, Nat.zero_add, Nat.reduceAdd]
  unfold takeKey
  rw [read]
  by_cases h : key = .number ∧ (n = 0 ∨ 99 < n.toNat)
  · rw [if_pos h, if_pos h]; rfl
  · rw [if_neg h, if_neg h]

/-- Settles O44: each of the two segments is taken as it arrives (R13). -/
theorem keyAndFlagsTaken : Obligations.KeyAndFlagsTaken := by
  refine ⟨fun s1 s0 c1 c0 s ha => ?_, fun code n r key s ha hr hc => ?_⟩
  · rw [exec_express (segmentOf_flags _) rfl ha]
    refine congrArg Host.Outcome.next ?_
    change takeFlags [s1, s0, c1, c0] (visited s 4) = _
    rw [takeFlags_four, writeFlags_eq_rule]
    rfl
  · have hk : readKeyCode code = some key :=
      (by decide : ∀ x ∈ [((0 : Byte), Key.up), (1, .down), (2, .left), (3, .right), (4, .ok), (5, .back), (6, .number),
        (7, .popup)], readKeyCode x.1 = some x.2) (code, key) hc
    rw [exec_express (segmentOf_key _) rfl ha]
    refine congrArg Host.Outcome.next ?_
    change takeKey [code, n, r] (visited s 3) = _
    rw [takeKey_three hk hr]
    simp only [queueKey, beq_iff_eq, ← Nat.not_lt (b := 8), ite_not]
    rfl

/-! ### Playheads (R126) -/

/-- A playhead whose hold runs out moves on, loops or stays (R126). -/
theorem moveOn_eq (a : Animation) (h : Playhead) :
    h.moveOn a =
      if h.entry + 1 < a.entries.length then
        { h with entry := h.entry + 1, left := (a.entries[h.entry + 1]?.map AnimEntry.hold).getD 0 }
      else match a.mode with
        | .loop => { h with entry := 0, left := (a.entries[0]?.map AnimEntry.hold).getD 0 }
        | .once => { h with left := 0 } := by
  unfold Playhead.moveOn
  split
  · next e he =>
    refine Eq.trans ?_ (if_pos (List.getElem?_eq_some_iff.1 he).1).symm
    simp only [he, Option.map_some, Option.getD_some]
  · next he =>
    refine Eq.trans ?_ (if_neg (Nat.not_lt.2 (List.getElem?_eq_none_iff.1 he))).symm
    cases a.mode <;> rfl

/-- The animation that a button's present visual plays (R126). -/
theorem animationOf_eq_rule (d : PageDef) (i : Nat) (x : ButtonState) :
    animationOf d i x = d.buttons[i]?.bind fun b => animationByRule d b x := by
  unfold animationOf
  cases d.buttons[i]? with
  | none => rfl
  | some b =>
    simp only [Option.bind_some, animationByRule_eq]
    cases b.visual x <;> rfl

/-- Settles O48: the button's playhead is the only one that runs out, and it does where its hold is 1. -/
theorem playheadSteps : Obligations.PlayheadSteps := by
  intro c i ix p b x h a s hs hp hx hh hf hb hv ha hold next n
  have hd : (navDef s c).buttons[i]?.bind (fun b => animationByRule (navDef s c) b x.state) = some a := by
    rw [navDef_eq_rule, shownDef, hp]
    simp only [hb, Option.bind_some, animationByRule_eq, hv, ha]
  have hn : h.runOut a = next := by
    unfold Playhead.runOut
    by_cases hl : h.left = 1
    · exact (if_pos ⟨hf, hl⟩).trans ((moveOn_eq a h).trans (if_neg (not_not.2 hl)).symm)
    · exact (if_neg fun e => hl e.2).trans (if_pos hl).symm
  refine congrArg Host.Outcome.next ((unlessHeld_high hs _).trans ?_)
  simp only [playheadDone, hx, ButtonNav.mapHead, hh, animationOf_eq_rule, hd, hn]
  rfl

end Sys2Proof.Machine
end

section
/-! PROOFS. What the navigation unit's operations leave alone within a frame end: the key queue, F, the mark of a
redefinition, every context's page with the number of its buttons, and the composition engine but for entries that join its
schedule (R132 to R141). -/

namespace Sys2Proof.Machine

open Sys2Proof

/-- From `s` to `t` the navigation unit has acted in the contexts that `P` names and nowhere else. -/
structure NavActs (P : NavCtx → Prop) (s t : State) : Prop where
  keys : t.nav.keys = s.nav.keys
  resting : t.nav.resting = s.nav.resting
  redefined : t.nav.redefined = s.nav.redefined
  page : ∀ c, (t.nav.get c).page = (s.nav.get c).page
  count : ∀ c, (t.nav.get c).buttons.length = (s.nav.get c).buttons.length
  other : ∀ c, ¬P c → t.nav.get c = s.nav.get c
  engine : t.engine = { s.engine with schedule := t.engine.schedule }
  schedule : s.engine.schedule <+: t.engine.schedule

namespace NavActs

variable {P : NavCtx → Prop} {s t u : State}

theorem refl (P : NavCtx → Prop) (s : State) : NavActs P s s where
  keys := rfl
  resting := rfl
  redefined := rfl
  page _ := rfl
  count _ := rfl
  other _ _ := rfl
  engine := rfl
  schedule := List.prefix_rfl

theorem trans (h : NavActs P s t) (h' : NavActs P t u) : NavActs P s u where
  keys := h'.keys.trans h.keys
  resting := h'.resting.trans h.resting
  redefined := h'.redefined.trans h.redefined
  page c := (h'.page c).trans (h.page c)
  count c := (h'.count c).trans (h.count c)
  other c hc := (h'.other c hc).trans (h.other c hc)
  engine := h'.engine.trans (congrArg (fun e : Engine => { e with schedule := u.engine.schedule }) h.engine)
  schedule := h.schedule.trans h'.schedule

/-- A change of the flags word and its mark at most. -/
theorem of_flags (hn : t.nav = { s.nav with flags := t.nav.flags, flagsChanged := t.nav.flagsChanged })
    (he : t.engine = s.engine) : NavActs P s t := by
  have get (c : NavCtx) : t.nav.get c = s.nav.get c := by rw [hn]; cases c <;> rfl
  exact
    { keys := by rw [hn]
      resting := by rw [hn]
      redefined := by rw [hn]
      page := fun c => by rw [get]
      count := fun c => by rw [get]
      other := fun c _ => get c
      engine := by rw [he]
      schedule := by rw [he] }

theorem hear (P : NavCtx → Prop) (s : State) (u : Sequencer × ReportUnit) : NavActs P s (s.hear u) := of_flags rfl rfl

theorem raise (P : NavCtx → Prop) (s : State) (b : ReportBody) : NavActs P s (s.raise b) := of_flags rfl rfl

/-- A navigation state is replaced by one of the same page and as many buttons. -/
theorem setNavState {c : NavCtx} (hP : P c) {x : NavState} (hp : x.page = (s.nav.get c).page)
    (hl : x.buttons.length = (s.nav.get c).buttons.length) : NavActs P s (s.setNavState c x) := by
  have get (d : NavCtx) : ((s.setNavState c x).nav).get d = if d = c then x else s.nav.get d := Nav.set_get ..
  refine
    { keys := Nav.set_keys ..
      resting := Nav.set_resting ..
      redefined := by cases c <;> rfl
      page := fun d => ?_
      count := fun d => ?_
      other := fun d hd => (get d).trans (if_neg fun e : d = c => hd (e ▸ hP))
      engine := rfl
      schedule := List.prefix_rfl }
  all_goals
    rw [get]
    split
    · next e => subst e; assumption
    · rfl

/-- An entry joins the schedule, or the insertion is refused (R83). -/
theorem insertEntry (P : NavCtx → Prop) (s : State) (x : ShowEntry) : NavActs P s (insertEntry x s).2 := by
  unfold Machine.insertEntry
  split
  · exact { refl P s with engine := rfl, schedule := List.prefix_append .. }
  · exact raise P s _

theorem insertWith {c : NavCtx} (hP : P c) (x : ShowEntry) (l : List (PageId × Option Nat)) (s : State) :
    NavActs P s (insertWith c x l s) := by
  have h := insertEntry P s x
  unfold Machine.insertWith
  split
  · next s1 e => rw [e] at h; exact h.trans (setNavState hP rfl rfl)
  · next s1 e => rw [e] at h; exact h

theorem goBack {c : NavCtx} (hP : P c) (t : Transition) (s : State) : NavActs P s (goBack c t s) := by
  unfold Machine.goBack
  dsimp only
  split
  · exact insertWith hP ..
  · cases c with
    | menu => exact raise P s _
    | popup => exact insertEntry P s _

/-- An action leaves the other context alone (R141). -/
theorem performAction {c : NavCtx} (hP : P c) (a : Action) (s : State) : NavActs P s (performAction c a s) := by
  cases a with
  | none => exact refl P s
  | goto q t => exact insertWith hP ..
  | replace q t => exact insertEntry P s _
  | back t => exact goBack hP t s
  | close t => exact insertWith hP ..
  | slidesStart e =>
    simp only [Machine.performAction, buttonStart, startTrigger_eq_rule]
    split
    · exact hear P s _
    · exact refl P s
  | slidesStop =>
    simp only [Machine.performAction, buttonStop, stopTrigger_eq_rule]
    split
    · exact hear P s _
    · exact refl P s
  | setFlags set clear =>
    simp only [Machine.performAction, setFlagsAction_eq_rule]
    split
    · exact refl P s
    · exact of_flags rfl rfl

theorem executeAction {c : NavCtx} (hP : P c) (i : Nat) (s : State) : NavActs P s (executeAction c i s) := by
  unfold Machine.executeAction
  split
  · exact refl P s
  · next b _ =>
    cases b.notify with
    | none => exact performAction hP b.action s
    | some code => exact (raise P s _).trans (performAction hP b.action _)

end NavActs

theorem moveButton_page (d : PageDef) (i : Nat) (x : ButtonState) (n : NavState) : (moveButton d i x n).page = n.page := by
  rw [moveButton_eq_rule]; rfl

theorem moveButton_length (d : PageDef) (i : Nat) (x : ButtonState) (n : NavState) :
    (moveButton d i x n).buttons.length = n.buttons.length := by
  rw [moveButton_eq_rule]; exact List.length_mapIdx

theorem selectButton_page (d : PageDef) (j : Nat) (n : NavState) : (selectButton d j n).page = n.page := by
  simp only [selectButton, moveButton_page]
  split
  · split
    · rfl
    · exact moveButton_page ..
  · rfl

theorem selectButton_length (d : PageDef) (j : Nat) (n : NavState) :
    (selectButton d j n).buttons.length = n.buttons.length := by
  simp only [selectButton, moveButton_length]
  split
  · split
    · rfl
    · exact moveButton_length ..
  · rfl

namespace NavActs

variable {P : NavCtx → Prop} {c : NavCtx}

/-- A button enters a state, and the activation of its context becomes another. -/
theorem moveButton (hP : P c) (i : Nat) (x : ButtonState) (a : Option Activation) (s : State) :
    NavActs P s (s.setNavState c { moveButton (navDef s c) i x (s.nav.get c) with activation := a }) :=
  setNavState hP (moveButton_page (navDef s c) i x (s.nav.get c)) (moveButton_length (navDef s c) i x (s.nav.get c))

theorem finishActivation (hP : P c) (i : Nat) (s : State) : NavActs P s (finishActivation c i s) :=
  (moveButton hP i .selected none s).trans (executeAction hP i _)

theorem activate (hP : P c) (i : Nat) (s : State) : NavActs P s (activate c i s) := by
  unfold Machine.activate
  dsimp only
  split
  · exact (moveButton hP i .activating _ s).trans (finishActivation hP i _)
  · exact moveButton hP i .activating _ s

theorem selectIn (hP : P c) (j : Nat) (s : State) : NavActs P s (selectIn c j s) :=
  setNavState hP (selectButton_page (navDef s c) j (s.nav.get c)) (selectButton_length (navDef s c) j (s.nav.get c))

theorem countActivation (hP : P c) (s : State) : NavActs P s (countActivation c s) := by
  unfold Machine.countActivation
  dsimp only
  split
  · exact refl P s
  · split
    · exact finishActivation hP _ s
    · exact setNavState hP rfl rfl

theorem arrowKey (hP : P c) (dir : Direction) (s : State) : NavActs P s (arrowKey c dir s) := by
  unfold Machine.arrowKey
  dsimp only
  split
  · exact refl P s
  · next j _ =>
    split
    · exact (selectIn hP j s).trans (activate hP j _)
    · exact selectIn hP j s

/-- A key in the focus of a context acts in that context (R135 to R139). -/
theorem contextKey (hP : P c) (e : KeyEntry) (s : State) : NavActs P s (contextKey c e s) := by
  unfold Machine.contextKey
  split
  · exact refl P s
  · cases e.key with
    | up => exact arrowKey hP .up s
    | down => exact arrowKey hP .down s
    | left => exact arrowKey hP .left s
    | right => exact arrowKey hP .right s
    | back => exact goBack hP .cut s
    | popup => exact refl P s
    | ok =>
      unfold okKey
      dsimp only
      split
      · exact activate hP _ s
      · exact refl P s
    | number =>
      unfold numberKey
      dsimp only
      split
      · next j _ => exact (selectIn hP j s).trans (activate hP j _)
      · exact refl P s

end NavActs

end Sys2Proof.Machine
end

section
/-! PROOFS. Step 1 of the navigation frame end: the conditions of one context evaluated, button by button (R123, R133). -/

namespace Sys2Proof.Machine

open Sys2Proof

/-! ### One button -/

/-- A button enters a state, unless it is in it. -/
def ButtonNav.become (d : PageDef) (i : Nat) (x : ButtonState) (y : ButtonNav) : ButtonNav :=
  match d.buttons[i]? with
  | none => y
  | some b => if y.state = x then y else { state := x, head := headByRule d b x true }

/-- The state that an evaluation gives button `i`, `target` being the button that the selection moves to. -/
def evaluatedState (d : PageDef) (flags : Half) (target : Option Nat) (i : Nat) (x : ButtonState) : ButtonState :=
  match d.buttons[i]? with
  | none => x
  | some b =>
    if b.condHolds flags = false then (if b.mode = .showIf then .hidden else .disabled)
    else if target = some i then .selected
    else if x = .hidden ∨ x = .disabled then .normal
    else x

/-- Button `i` after an evaluation. -/
def ButtonNav.evaluated (d : PageDef) (flags : Half) (target : Option Nat) (i : Nat) (y : ButtonNav) : ButtonNav :=
  y.become d i (evaluatedState d flags target i y.state)

theorem become_same (d : PageDef) (i : Nat) (y : ButtonNav) : y.become d i y.state = y := by
  unfold ButtonNav.become
  split
  · rfl
  · exact if_pos rfl

theorem become_none {d : PageDef} {i : Nat} (h : d.buttons[i]? = none) (x : ButtonState) (y : ButtonNav) :
    y.become d i x = y := by unfold ButtonNav.become; rw [h]

theorem become_some {d : PageDef} {i : Nat} {b : Button} (h : d.buttons[i]? = some b) (x : ButtonState) (y : ButtonNav) :
    y.become d i x = if y.state = x then y else { state := x, head := headByRule d b x true } := by
  unfold ButtonNav.become; rw [h]

theorem become_state {d : PageDef} {i : Nat} {b : Button} (h : d.buttons[i]? = some b) (x : ButtonState) (y : ButtonNav) :
    (y.become d i x).state = x := by
  rw [become_some h]
  split
  · assumption
  · rfl

theorem enterByRule_buttons (d : PageDef) (m : Nat) (x : ButtonState) (n : NavState) :
    (enterByRule d m x n).buttons = n.buttons.mapIdx fun i y => if i = m then y.become d i x else y := by
  refine congrArg (List.mapIdx · n.buttons) (funext₂ fun i y => ?_)
  cases hb : d.buttons[i]? with
  | none => simp only [become_none hb, ite_self]
  | some b =>
    simp only [become_some hb]
    by_cases hi : i = m <;> by_cases hy : y.state = x <;> simp [hi, hy]

theorem moveButton_eq (d : PageDef) (m : Nat) (x : ButtonState) (n : NavState) :
    moveButton d m x n =
      { n with buttons := n.buttons.mapIdx fun i y => if i = m then y.become d i x else y } := by
  rw [moveButton_eq_rule, ← enterByRule_buttons]; rfl

theorem condHolds_eq (b : Button) (flags : Half) :
    b.condHolds flags = (b.mode == .none || flags &&& b.cond.mask == b.cond.compare) := by
  unfold Button.condHolds
  cases b.mode <;> rfl

/-- The model's evaluation of a button, in the terms of R123 and R133. -/
theorem evaluated_eq (b : Button) (flags : Half) (x : ButtonState) :
    b.evaluated flags x =
      if b.condHolds flags = false then (if b.mode = .showIf then .hidden else .disabled)
      else if x = .hidden ∨ x = .disabled then .normal
      else x := by
  unfold Button.evaluated Button.restState
  cases h : b.condHolds flags with
  | true => cases x <;> rfl
  | false =>
    cases hm : b.mode with
    | none => simp [Button.condHolds, hm] at h
    | showIf => rfl
    | enableIf => rfl

/-- A button that has been evaluated and then becomes SELECTED has become SELECTED at once: one made NORMAL was HIDDEN or
DISABLED. -/
theorem evaluated_become_selected {d : PageDef} {flags : Half} {i : Nat} (h : d.selectable flags i = true) (y : ButtonNav) :
    (y.evaluated d flags none i).become d i .selected = y.evaluated d flags (some i) i := by
  unfold ButtonNav.evaluated evaluatedState
  cases hb : d.buttons[i]? with
  | none => simp [PageDef.selectable, hb] at h
  | some b =>
    have hc : b.condHolds flags = true := by simpa [PageDef.selectable, hb] using h
    obtain ⟨x, head⟩ := y
    cases x <;> simp [become_some hb, hc]

/-! ### One context -/

theorem mapIdx_same {α : Type} (l : List α) : (l.mapIdx fun _ x => x) = l :=
  List.ext_getElem List.length_mapIdx fun _ _ _ => List.getElem_mapIdx ..

theorem evaluateButton_eq (d : PageDef) (flags : Half) (i : Nat) (n : NavState) :
    evaluateButton d flags i n =
      { n with buttons := n.buttons.mapIdx fun j y => if j = i then y.evaluated d flags none j else y } := by
  unfold evaluateButton
  split
  · next b x hb hx =>
    rw [moveButton_eq]
    congr 1
    refine List.ext_getElem? fun j => ?_
    simp only [List.getElem?_mapIdx]
    by_cases hj : j = i
    · subst hj
      simp only [hx, ↓reduceIte, Option.map_some, ButtonNav.evaluated, evaluatedState, hb, evaluated_eq, reduceCtorEq]
    · simp only [hj, ↓reduceIte]
  · next hn =>
    have same : n.buttons.mapIdx (fun j y => if j = i then y.evaluated d flags none j else y) = n.buttons := by
      refine List.ext_getElem? fun j => ?_
      rw [List.getElem?_mapIdx]
      cases hy : n.buttons[j]? with
      | none => rfl
      | some y =>
        rw [Option.map_some]
        split
        · next hj =>
          subst hj
          cases hb : d.buttons[j]? with
          | none => rw [ButtonNav.evaluated, become_none hb]
          | some b => exact absurd hy (hn b y hb)
        · rfl
    rw [same]

/-- The first `k` buttons evaluated one after another. -/
theorem evaluateButtons_eq (d : PageDef) (flags : Half) (k : Nat) (n : NavState) :
    (List.range k).foldl (fun n i => evaluateButton d flags i n) n =
      { n with buttons := n.buttons.mapIdx fun j y => if j < k then y.evaluated d flags none j else y } := by
  induction k with
  | zero => simp only [Nat.not_lt_zero, ↓reduceIte, mapIdx_same]; rfl
  | succ k ih =>
    rw [List.range_succ, List.foldl_append, ih, List.foldl_cons, List.foldl_nil, evaluateButton_eq]
    simp only [List.mapIdx_mapIdx]
    congr 2
    funext j y
    simp only [Function.comp_apply]
    by_cases hj : j = k
    · subst hj; simp
    · by_cases hk : j < k
      · simp [hj, hk, Nat.lt_succ_of_lt hk]
      · simp [hj, hk, show ¬j < k + 1 by omega]

/-- The lowest button whose condition holds. -/
def PageDef.lowestHolding (d : PageDef) (flags : Half) : Option Nat :=
  (List.range d.buttons.length).find? (d.selectable flags)

/-- The selected button's condition holds no longer. -/
def selectionMoves (d : PageDef) (flags : Half) (selected : Option Nat) : Bool :=
  (selected.map fun i => !d.selectable flags i).getD false

/-- A navigation state after an evaluation (R133). -/
def NavState.evaluated (d : PageDef) (flags : Half) (n : NavState) : NavState :=
  let moves := selectionMoves d flags n.selected
  { n with
    selected := if moves then d.lowestHolding flags else n.selected
    activation := n.activation.filter fun a => d.selectable flags a.button
    buttons := n.buttons.mapIdx fun i y => y.evaluated d flags (if moves then d.lowestHolding flags else none) i }

/-- A selectable button is one whose condition the last evaluation found true. -/
theorem selectable_evaluated {d : PageDef} {flags : Half} {n m : NavState} (hl : n.buttons.length = d.buttons.length)
    (hm : m.buttons = n.buttons.mapIdx fun i y => y.evaluated d flags none i) : m.selectable = d.selectable flags := by
  funext i
  simp only [NavState.selectable, PageDef.selectable, hm, List.getElem?_mapIdx]
  by_cases hi : i < d.buttons.length
  · have hb := List.getElem?_eq_getElem hi
    rw [hb, List.getElem?_eq_getElem (hl ▸ hi)]
    simp only [Option.map_some, Option.getD_some, ButtonNav.evaluated, become_state hb, evaluatedState, hb]
    cases hc : d.buttons[i].condHolds flags with
    | false => by_cases hs : d.buttons[i].mode = .showIf <;> simp [hs, ButtonState.selectable]
    | true => cases n.buttons[i].state <;> rfl
  · rw [List.getElem?_eq_none (Nat.not_lt.1 hi), List.getElem?_eq_none (hl ▸ Nat.not_lt.1 hi)]
    rfl

/-- The repair of a selection, once the button states are known to follow the conditions. -/
theorem repairSelection_eq {d : PageDef} {flags : Half} {n : NavState} (hs : n.selectable = d.selectable flags)
    (hl : n.buttons.length = d.buttons.length) :
    repairSelection d n =
      if selectionMoves d flags n.selected then
        { n with
          selected := d.lowestHolding flags
          buttons := n.buttons.mapIdx fun i y =>
            if d.lowestHolding flags = some i then y.become d i .selected else y }
      else n := by
  unfold repairSelection selectionMoves
  rw [hs]
  cases hn : n.selected with
  | none => rfl
  | some i =>
    cases hi : d.selectable flags i with
    | true => simp [hi]
    | false =>
      have low : lowest n (d.selectable flags) = d.lowestHolding flags := by rw [lowest, hl]; rfl
      simp only [low, hi, Option.map_some, Option.getD_some, Bool.not_false, ↓reduceIte, Bool.false_eq_true]
      cases d.lowestHolding flags with
      | none => simp only [reduceCtorEq, ↓reduceIte, mapIdx_same]
      | some j => simp only [moveButton_eq, Option.some.injEq, eq_comm]

/-- The repair touches the selection and the buttons alone. -/
theorem repairSelection_rest (d : PageDef) (n : NavState) :
    repairSelection d n =
      { n with selected := (repairSelection d n).selected, buttons := (repairSelection d n).buttons } := by
  unfold repairSelection
  split
  · rfl
  · split
    · rfl
    · split
      · simp only [moveButton_eq]
      · rfl

theorem repairSelection_length (d : PageDef) (n : NavState) :
    (repairSelection d n).buttons.length = n.buttons.length := by
  unfold repairSelection
  split
  · rfl
  · split
    · rfl
    · split
      · exact moveButton_length ..
      · rfl

theorem evaluateNav_page (d : PageDef) (flags : Half) (n : NavState) : (evaluateNav d flags n).page = n.page := by
  rw [evaluateNav, evaluateButtons_eq, repairSelection_rest]

theorem evaluateNav_length (d : PageDef) (flags : Half) (n : NavState) :
    (evaluateNav d flags n).buttons.length = n.buttons.length := by
  rw [evaluateNav, evaluateButtons_eq, repairSelection_length]
  exact List.length_mapIdx

theorem evaluateNav_activation_none (d : PageDef) (flags : Half) {n : NavState} (h : n.activation = none) :
    (evaluateNav d flags n).activation = none := by
  rw [evaluateNav, evaluateButtons_eq, repairSelection_rest]
  simp only [h, Option.filter_none]

/-- The model's evaluation of one context, given a state for each button. -/
theorem evaluateNav_eq {d : PageDef} {n : NavState} (hl : n.buttons.length = d.buttons.length) (flags : Half) :
    evaluateNav d flags n = n.evaluated d flags := by
  have all : n.buttons.mapIdx (fun j y => if j < n.buttons.length then y.evaluated d flags none j else y) =
      n.buttons.mapIdx fun j y => y.evaluated d flags none j :=
    List.ext_getElem (by simp) fun j hj _ => by
      simp only [List.getElem_mapIdx, if_pos (List.length_mapIdx ▸ hj : j < n.buttons.length)]
  unfold evaluateNav
  rw [evaluateButtons_eq, all]
  dsimp only
  rw [selectable_evaluated (n := n) hl rfl,
    repairSelection_eq (flags := flags) (selectable_evaluated hl rfl) (List.length_mapIdx.trans hl)]
  unfold NavState.evaluated
  cases hm : selectionMoves d flags n.selected with
  | false => rfl
  | true =>
    simp only [↓reduceIte, List.mapIdx_mapIdx, NavState.mk.injEq, true_and, and_true]
    congr 1
    funext i y
    by_cases hi : d.lowestHolding flags = some i
    · have holds : d.selectable flags i = true := List.find?_some hi
      simp only [Function.comp_apply, hi, ↓reduceIte, evaluated_become_selected holds]
    · cases hb : d.buttons[i]? <;>
        simp [hi, ButtonNav.evaluated, evaluatedState, hb]

theorem ite_none_eq_some {α : Type} (p : Bool) (x : Option α) (a : α) :
    (if p then x else none) = some a ↔ p = true ∧ x = some a := by cases p <;> simp

/-- Step 1 of one context comes to the rule (R133). -/
theorem evaluateByRule_eq (d : PageDef) (flags : Half) (n : NavState) : evaluateByRule d flags n = n.evaluated d flags := by
  have holds (i : Nat) : (d.buttons[i]?.any fun b => b.mode == .none || flags &&& b.cond.mask == b.cond.compare) =
      d.selectable flags i := by
    simp only [PageDef.selectable, condHolds_eq]
    cases d.buttons[i]? <;> rfl
  have moves : (n.selected.any fun i => !d.selectable flags i) = selectionMoves d flags n.selected := by
    cases n.selected <;> rfl
  unfold evaluateByRule NavState.evaluated
  simp only [holds, moves, NavState.mk.injEq, true_and, and_true]
  refine ⟨congrArg (List.mapIdx · n.buttons) (funext₂ fun i y => ?_), rfl⟩
  unfold ButtonNav.evaluated evaluatedState
  cases hb : d.buttons[i]? with
  | none => rw [become_none hb]
  | some b =>
    have hc : d.selectable flags i = b.condHolds flags := by simp only [PageDef.selectable, hb, Option.map_some, Option.getD_some]
    simp only [become_some hb, hc, ite_none_eq_some, eq_comm (a := y.state)]
    rfl

end Sys2Proof.Machine
end

section
/-! PROOFS. Steps 3 and 4 of the navigation frame end come to their rules: a key, in every focus, and the playheads (R126,
R135 to R139, R160). -/

namespace Sys2Proof.Machine

open Sys2Proof

/-! ### Backward steps of the sequencer (R160) -/

/-- The order of a backward step: down from the entry before the reference entry and, in LOOP, round to the one after it
(R160). -/
theorem backwardOrder_eq_rule (n : Nat) (loop : Bool) (m : Nat) :
    backwardOrder n loop m =
      ((List.range n).filter (· < m)).reverse ++ if loop then ((List.range n).filter (m < ·)).reverse else [] := by
  simp only [backwardOrder, take_range, drop_range, Nat.succ_le_iff]

/-- A backward step (R160). -/
theorem backStep_eq_rule (s : State) :
    backStep s = s.hear (backByRule (fun p => (s.engine.page p).defined) s.engine.fc s.seq s.report) := by
  have loops : s.seq.loops = true ↔ s.seq.config.endMode = .loop := by simp [Sequencer.loops]
  unfold backStep backByRule
  rw [reference_eq_rule]
  cases referenceByRule s.seq with
  | none => rfl
  | some m =>
    simp only [scanEntries_eq_rule, backwardOrder_eq_rule, loops]
    generalize scanByRule _ _ _ _ _ = x
    obtain ⟨_ | i, r⟩ := x <;> rfl

/-! ### Selectable buttons and the arrow search (R123, R137) -/

theorem selectable_eq_offers (n : NavState) : n.selectable = n.offers := by
  funext i
  unfold NavState.selectable NavState.offers
  cases n.buttons[i]? with
  | none => rfl
  | some b => obtain ⟨x, _⟩ := b; cases x <;> rfl

/-- A button's neighbour in a direction, if there is such a button. -/
def PageDef.neighbour (d : PageDef) (dir : Direction) (i : Nat) : Option Nat :=
  (d.buttons[i]?.bind fun b => b.neighbour dir).filter (· < d.buttons.length)

/-- The button that `k` hops in a direction reach. -/
def PageDef.hop (d : PageDef) (dir : Direction) (i k : Nat) : Option Nat :=
  (fun x => x.bind (d.neighbour dir))^[k] (some i)

theorem PageDef.hop_one (d : PageDef) (dir : Direction) (i : Nat) : d.hop dir i 1 = d.neighbour dir i := rfl

theorem PageDef.hop_succ {d : PageDef} {dir : Direction} {i j : Nat} (h : d.neighbour dir i = some j) (k : Nat) :
    d.hop dir i (1 + k) = d.hop dir j k := by
  unfold PageDef.hop
  rw [Nat.add_comm, Function.iterate_succ_apply, Option.bind_some, h]

/-- The search meets the end of the neighbours, the button it began at or a selectable button. -/
def searchEnds (n : NavState) (start : Nat) (x : Option Nat) : Bool := x.all fun j => j = start ∨ n.selectable j = true

/-- The first hop that ends the search decides it. -/
theorem searchMove_eq (d : PageDef) (n : NavState) (dir : Direction) (start k i : Nat) :
    searchMove d n dir start k i =
      ((List.range' 1 k).find? fun q => searchEnds n start (d.hop dir i q)).bind fun q =>
        (d.hop dir i q).filter (· ≠ start) := by
  induction k generalizing i with
  | zero => rfl
  | succ k ih =>
    have tail {j : Nat} (hj : d.neighbour dir i = some j) :
        ((List.range' 2 k).find? fun q => searchEnds n start (d.hop dir i q)).bind (fun q =>
          (d.hop dir i q).filter (· ≠ start)) = searchMove d n dir start k j := by
      rw [ih, ← List.map_add_range' (a := 1) 1 k 1, List.find?_map, Option.bind_map]
      simp only [Function.comp_def, PageDef.hop_succ hj]
    rw [searchMove, List.range'_succ, List.find?_cons, PageDef.hop_one]
    cases hr : d.buttons[i]?.bind fun b => b.neighbour dir with
    | none =>
      have hj : d.neighbour dir i = none := by rw [PageDef.neighbour, hr]; rfl
      simp [hj, searchEnds, PageDef.hop_one]
    | some j =>
      by_cases hlen : d.buttons.length ≤ j
      · have hj : d.neighbour dir i = none := by
          rw [PageDef.neighbour, hr]; simp [Option.filter, hlen]
        simp [hj, hlen, searchEnds, PageDef.hop_one]
      · have hj : d.neighbour dir i = some j := by
          rw [PageDef.neighbour, hr]; simp [Option.filter, Nat.not_le.1 hlen]
        by_cases hs : j = start
        · simp [hj, hs, searchEnds, PageDef.hop_one, Option.filter]
        · cases hsel : n.selectable j with
          | true => simp [hj, hlen, hs, hsel, searchEnds, PageDef.hop_one, Option.filter]
          | false => simpa [hj, hlen, hs, hsel, searchEnds] using (tail hj).symm

/-- The button that an arrow key moves to (R137). -/
theorem arrowTarget_eq_rule {d : PageDef} {n : NavState} (hl : n.buttons.length = d.buttons.length) (dir : Direction) :
    arrowTarget d n dir = arrowByRule d n dir := by
  unfold arrowTarget arrowByRule
  cases n.selected with
  | none => rw [selectable_eq_offers, lowest, hl]
  | some i =>
    simp only [searchMove_eq, searchEnds, selectable_eq_offers]
    cases dir <;> rfl

/-! ### A key -/

/-- The focus context of a key other than POPUP (R136). -/
theorem focus_eq_rule (s : State) :
    focus s =
      if s.nav.popup.page ≠ none then some .popup
      else if s.nav.menu.page ≠ none ∧ (shownDef s .menu).buttons ≠ [] then some .menu
      else none := by
  simp only [focus, navDef_eq_rule, Option.isSome_iff_ne_none]

/-- The POPUP key (R135). -/
theorem popupKey_eq_rule (s : State) :
    popupKey s =
      if s.nav.popup.page ≠ none then insertByRule .popup none .cut none [] s
      else match s.engine.popupPage with
        | some p => insertByRule .popup (some p) .cut none s.nav.popup.stack s
        | none => s := by
  unfold popupKey
  cases s.nav.popup.page with
  | some p => exact insertWith_eq_rule ..
  | none =>
    cases s.engine.popupPage with
    | some p => exact insertEntry_eq_rule ..
    | none => rfl

/-- An arrow key (R137). -/
theorem arrowKey_eq_rule {c : NavCtx} {s : State} (hl : (s.nav.get c).buttons.length = (shownDef s c).buttons.length)
    (dir : Direction) :
    arrowKey c dir s =
      match arrowByRule (shownDef s c) (s.nav.get c) dir with
      | none => s
      | some j =>
        if (shownDef s c).buttons[j]?.any Button.auto then activateByRule c j (selectByRule c j s)
        else selectByRule c j s := by
  unfold arrowKey
  simp only [navDef_eq_rule, arrowTarget_eq_rule hl]
  cases arrowByRule (shownDef s c) (s.nav.get c) dir with
  | none => rfl
  | some j =>
    simp only [activate_eq_rule, selectIn_eq_rule]
    cases (shownDef s c).buttons[j]? <;> rfl

/-- OK (R138). -/
theorem okKey_eq_rule (c : NavCtx) (s : State) :
    okKey c s =
      match (s.nav.get c).selected with
      | some i => activateByRule c i s
      | none => s := by
  unfold okKey
  cases (s.nav.get c).selected with
  | none => rfl
  | some i => exact activate_eq_rule c i s

/-- NUMBER (R138). -/
theorem numberKey_eq_rule {c : NavCtx} {s : State} (hl : (s.nav.get c).buttons.length = (shownDef s c).buttons.length)
    (k : Nat) :
    numberKey c k s =
      match (List.range (shownDef s c).buttons.length).find? fun i =>
        (s.nav.get c).offers i && ((shownDef s c).buttons[i]?.bind Button.number == some k) with
      | some j => activateByRule c j (selectByRule c j s)
      | none => s := by
  unfold numberKey
  simp only [navDef_eq_rule, lowest, hl, selectable_eq_offers]
  generalize List.find? _ _ = x
  cases x with
  | none => rfl
  | some j => simp only [activate_eq_rule, selectIn_eq_rule]

/-- RIGHT, LEFT and OK in SLIDE focus act as NEXT, PREV and a pause or resume (R136, R160). -/
theorem slideKey_next_eq_rule (s : State) :
    slideKey .next s =
      if s.seq.run = .running ∨ s.seq.run = .held ∨ s.seq.run = .draining then
        s.hear (advanceByRule (fun p => (s.engine.page p).defined) s.engine.fc (referenceByRule s.seq) s.seq s.report)
      else s := by
  rw [← reference_eq_rule, ← advanceFrom_eq_rule]
  unfold slideKey
  cases s.seq.run <;> rfl

theorem slideKey_prev_eq_rule (s : State) :
    slideKey .prev s =
      if s.seq.run = .running ∨ s.seq.run = .held then
        s.hear (backByRule (fun p => (s.engine.page p).defined) s.engine.fc s.seq s.report)
      else s := by
  rw [← backStep_eq_rule]
  unfold slideKey
  cases s.seq.run <;> rfl

theorem slideKey_pauseResume_eq_rule (s : State) :
    slideKey .pauseResume s =
      { s with seq := { s.seq with run := match s.seq.run with
        | .running => .held
        | .held => .running
        | r => r } } := by
  unfold slideKey
  obtain ⟨_, _, _, _, _, _, _, _, _, _, seq, _, _⟩ := s
  obtain ⟨_, _, run, _, _, _, _, _, _, _⟩ := seq
  cases run <;> rfl

/-- A key other than POPUP in the focus of a context, where an activation in progress discards it (R135). -/
theorem contextKey_eq_rule (c : NavCtx) (s : State) (k : Key) (n : Byte) (r : Bool) :
    contextKey c { key := k, number := n, rep := r } s =
      if (s.nav.get c).activation ≠ none then s
      else match k with
        | .up => arrowKey c .up s
        | .down => arrowKey c .down s
        | .left => arrowKey c .left s
        | .right => arrowKey c .right s
        | .ok => okKey c s
        | .number => numberKey c n.toNat s
        | .back => actionByRule c (.back .cut) s
        | .popup => s := by
  unfold contextKey
  cases (s.nav.get c).activation with
  | some a => rfl
  | none =>
    cases k with
    | back => exact performAction_eq_rule c (.back .cut) s
    | _ => rfl

/-- A key is handled as the rules say, given a state for each button of the navigation pages (R135 to R139). -/
theorem handleKey_eq_rule {s : State} (hl : ∀ c, (s.nav.get c).buttons.length = (shownDef s c).buttons.length)
    (e : KeyEntry) : handleKey e s = keyByRule e s := by
  obtain ⟨key, n, r⟩ := e
  unfold handleKey keyByRule
  rw [focus_eq_rule]
  dsimp only
  generalize (if s.nav.popup.page ≠ none then some NavCtx.popup
      else if s.nav.menu.page ≠ none ∧ (shownDef s .menu).buttons ≠ [] then some .menu
      else none) = focus
  cases focus with
  | none =>
    cases key with
    | popup => exact popupKey_eq_rule s
    | right => exact slideKey_next_eq_rule s
    | left => exact slideKey_prev_eq_rule s
    | ok => exact slideKey_pauseResume_eq_rule s
    | up | down | back | number => rfl
  | some c =>
    cases key with
    | popup => exact popupKey_eq_rule s
    | up => exact (contextKey_eq_rule c s .up n r).trans (if_congr Iff.rfl rfl (arrowKey_eq_rule (hl c) .up))
    | down => exact (contextKey_eq_rule c s .down n r).trans (if_congr Iff.rfl rfl (arrowKey_eq_rule (hl c) .down))
    | left => exact (contextKey_eq_rule c s .left n r).trans (if_congr Iff.rfl rfl (arrowKey_eq_rule (hl c) .left))
    | right => exact (contextKey_eq_rule c s .right n r).trans (if_congr Iff.rfl rfl (arrowKey_eq_rule (hl c) .right))
    | ok => exact (contextKey_eq_rule c s .ok n r).trans (if_congr Iff.rfl rfl (okKey_eq_rule c s))
    | number =>
      exact (contextKey_eq_rule c s .number n r).trans (if_congr Iff.rfl rfl (numberKey_eq_rule (hl c) n.toNat))
    | back => exact contextKey_eq_rule c s .back n r

/-! ### Playheads (R126) -/

/-- A playhead that was not restarted in this frame end steps; the mark of a restart is cleared. -/
theorem Playhead.step_eq_rule (a : Animation) (h : Playhead) :
    h.step a = if h.fresh then { h with fresh := false } else stepByRule a h := by
  unfold Playhead.step
  split
  · rfl
  · unfold stepByRule
    split
    · rfl
    · split
      · next hl =>
        rw [if_neg (by omega)]
        exact moveOn_eq a h
      · next h0 h1 => exact (if_pos (by omega)).symm

/-- A button's playhead steps in the animation that the button plays, if it plays one. -/
theorem mapHead_none {d : PageDef} {i : Nat} {y : ButtonNav}
    (h : (d.buttons[i]?.bind fun b => animationByRule d b y.state) = none) (f : Animation → Playhead → Playhead) :
    y.mapHead d i f = y := by
  unfold ButtonNav.mapHead
  rw [animationOf_eq_rule, h]
  cases y.head <;> rfl

theorem mapHead_some {d : PageDef} {i : Nat} {y : ButtonNav} {a : Animation}
    (h : (d.buttons[i]?.bind fun b => animationByRule d b y.state) = some a) (f : Animation → Playhead → Playhead) :
    y.mapHead d i f = { y with head := y.head.map (f a) } := by
  unfold ButtonNav.mapHead
  rw [animationOf_eq_rule, h]
  obtain ⟨x, _ | head⟩ := y <;> rfl

/-- Step 4 in one context (R126). -/
theorem stepHeads_eq_rule (d : PageDef) (n : NavState) :
    stepHeads d n =
      { n with buttons := n.buttons.mapIdx fun i y =>
          match d.buttons[i]?.bind fun b => animationByRule d b y.state with
          | none => y
          | some a =>
            { y with head := y.head.map fun h => if h.fresh then { h with fresh := false } else stepByRule a h } } := by
  unfold stepHeads
  rw [mapAt_zero_eq_mapIdx]
  refine congrArg (fun f => { n with buttons := n.buttons.mapIdx f }) (funext₂ fun i y => ?_)
  cases h : d.buttons[i]?.bind fun b => animationByRule d b y.state with
  | none => exact mapHead_none h _
  | some a =>
    rw [mapHead_some h, funext (Playhead.step_eq_rule a)]

end Sys2Proof.Machine
end

section
/-! PROOFS. The navigation frame end as a whole: what its four steps leave alone, and its rule, step by step (R132). -/

namespace Sys2Proof.Machine

open Sys2Proof

/-! ### Keys -/

/-- A key in SLIDE focus is heard by the sequencer alone. -/
theorem NavActs.slideFocusKey (P : NavCtx → Prop) (k : Key) (s : State) : NavActs P s (slideFocusKey k s) := by
  have back : NavActs P s (backStep s) := by rw [backStep_eq_rule]; exact hear P s _
  have next : NavActs P s (advance s) := by rw [advance, advanceFrom_eq_rule]; exact hear P s _
  have run (r : RunState) : NavActs P s (s.setRun r) := of_flags rfl rfl
  have key (k : SlideKey) : NavActs P s (slideKey k s) := by
    unfold slideKey
    cases s.seq.run with
    | idle | armed | ended => exact refl P s
    | running => cases k with
      | pause | pauseResume => exact run .held
      | resume => exact refl P s
      | next => exact next
      | prev => exact back
    | held => cases k with
      | pause => exact refl P s
      | resume | pauseResume => exact run .running
      | next => exact next
      | prev => exact back
    | draining => cases k with
      | next => exact next
      | pause | resume | pauseResume | prev => exact refl P s
  cases k with
  | right => exact key .next
  | left => exact key .prev
  | ok => exact key .pauseResume
  | up | down | back | number | popup => exact refl P s

/-- A key acts within the navigation unit, the sequencer and the schedule. -/
theorem NavActs.handleKey (e : KeyEntry) (s : State) : NavActs (fun _ => True) s (handleKey e s) := by
  unfold Machine.handleKey
  split
  · unfold popupKey
    split
    · exact insertWith trivial ..
    · split
      · exact insertEntry _ s _
      · exact refl _ s
  · split
    · next c _ => exact contextKey trivial e s
    · exact slideFocusKey _ e.key s

theorem takeOneKey_nil {s : State} (h : s.nav.keys = []) : takeOneKey s = s := by unfold takeOneKey; rw [h]

theorem takeOneKey_cons {s : State} {e : KeyEntry} {rest : List KeyEntry} (h : s.nav.keys = e :: rest) :
    takeOneKey s = handleKey e (s.setNav { s.nav with keys := rest }) := by unfold takeOneKey; rw [h]

/-- Step 3 takes the oldest key (R135). -/
theorem NavActs.takeOneKey (s : State) :
    NavActs (fun _ => True) (s.setNav { s.nav with keys := s.nav.keys.tail }) (takeOneKey s) := by
  cases h : s.nav.keys with
  | nil =>
    rw [takeOneKey_nil h]
    have e : s.setNav { s.nav with keys := [] } = s := by rw [← h]; rfl
    exact e.symm ▸ refl _ s
  | cons e rest =>
    rw [takeOneKey_cons h]
    exact handleKey e _

/-! ### Marks and playheads -/

theorem NavState.clearFresh_length (n : NavState) : n.clearFresh.buttons.length = n.buttons.length := List.length_map ..

theorem clearFresh_get (s : State) (c : NavCtx) : (clearFresh s).nav.get c = (s.nav.get c).clearFresh := by
  cases c <;> rfl

theorem NavActs.clearFresh (s : State) : NavActs (fun _ => True) s (clearFresh s) :=
  (setNavState (s := s) (c := .menu) (x := s.nav.menu.clearFresh) trivial rfl (NavState.clearFresh_length _)).trans
    (setNavState (c := .popup) (x := s.nav.popup.clearFresh) trivial rfl (NavState.clearFresh_length _))

theorem stepHeads_length (d : PageDef) (n : NavState) : (stepHeads d n).buttons.length = n.buttons.length := by
  simp only [stepHeads, mapAt_zero_eq_mapIdx, List.length_mapIdx]

theorem NavActs.stepHeadsIn {P : NavCtx → Prop} {c : NavCtx} (hP : P c) (s : State) : NavActs P s (stepHeadsIn c s) :=
  setNavState hP rfl (stepHeads_length (navDef s c) (s.nav.get c))

/-- Step 4 in both contexts (R126). -/
theorem stepBoth_get (s : State) (c : NavCtx) :
    (stepHeadsIn .popup (stepHeadsIn .menu s)).nav.get c = stepHeads (shownDef s c) (s.nav.get c) := by
  rw [← navDef_eq_rule]
  cases c <;> rfl

theorem stepBoth_eq (s : State) :
    stepHeadsIn .popup (stepHeadsIn .menu s) =
      s.setNav { s.nav with
        menu := stepHeads (shownDef s .menu) s.nav.menu, popup := stepHeads (shownDef s .popup) s.nav.popup } := by
  rw [← navDef_eq_rule, ← navDef_eq_rule]
  rfl

/-! ### Step 1 (R133) -/

/-- The navigation unit with F taken and both marks cleared. -/
def State.taken (s : State) : State :=
  s.setNav { s.nav with resting := s.nav.flags, flagsChanged := false, redefined := false }

/-- What step 1 leaves of one context. -/
def evaluatedNav (s : State) (c : NavCtx) : NavState :=
  if s.nav.flagsChanged = true ∨ s.nav.redefined = true then evaluateNav (shownDef s c) s.nav.flags (s.nav.get c)
  else s.nav.get c

theorem evaluateConditions_eq (s : State) :
    evaluateConditions s =
      s.setNav { s.nav with
        resting := s.nav.flags, flagsChanged := false, redefined := false
        menu := evaluatedNav s .menu, popup := evaluatedNav s .popup } := by
  simp only [evaluateConditions, evaluatedNav, ← navDef_eq_rule, Bool.or_eq_true]
  split <;> rfl

theorem evaluateConditions_get (s : State) (c : NavCtx) : (evaluateConditions s).nav.get c = evaluatedNav s c := by
  rw [evaluateConditions_eq]
  cases c <;> rfl

theorem NavActs.evaluateConditions (s : State) : NavActs (fun _ => True) s.taken (evaluateConditions s) := by
  have page (c : NavCtx) : (evaluatedNav s c).page = (s.nav.get c).page := by
    unfold evaluatedNav
    split
    · exact evaluateNav_page ..
    · rfl
  have count (c : NavCtx) : (evaluatedNav s c).buttons.length = (s.nav.get c).buttons.length := by
    unfold evaluatedNav
    split
    · exact evaluateNav_length ..
    · rfl
  rw [evaluateConditions_eq]
  exact
    (setNavState (s := s.taken) (c := .menu) trivial (page .menu) (count .menu)).trans
      (setNavState (c := .popup) trivial (page .popup) (count .popup))

/-! ### The whole frame end -/

namespace NavActs

variable {P : NavCtx → Prop} {s t : State}

theorem setKeys (h : NavActs P s t) (l : List KeyEntry) :
    NavActs P (s.setNav { s.nav with keys := l }) (t.setNav { t.nav with keys := l }) := by
  have get (s : State) (c : NavCtx) : (s.setNav { s.nav with keys := l }).nav.get c = s.nav.get c := by cases c <;> rfl
  exact
    { keys := rfl
      resting := h.resting
      redefined := h.redefined
      page := fun c => by rw [get, get, h.page]
      count := fun c => by rw [get, get, h.count]
      other := fun c hc => by rw [get, get, h.other c hc]
      engine := h.engine
      schedule := h.schedule }

/-- The definition that a context shows stands. -/
theorem shownDef (h : NavActs P s t) (c : NavCtx) : shownDef t c = shownDef s c := by
  unfold Machine.shownDef
  rw [h.page, h.engine]
  rfl

/-- A state for each button of the navigation pages. -/
theorem complete (h : NavActs P s t) (hl : ∀ c, (s.nav.get c).buttons.length = (Machine.shownDef s c).buttons.length)
    (c : NavCtx) : (t.nav.get c).buttons.length = (Machine.shownDef t c).buttons.length := by
  rw [h.count, h.shownDef, hl]

end NavActs

/-- Steps 1 and 2 act on the state with F taken and both marks cleared. -/
theorem navActs_untilKey (s : State) :
    NavActs (fun _ => True) s.taken
      (countActivation .popup (countActivation .menu (evaluateConditions (clearFresh s)))) :=
  (NavActs.clearFresh s.taken).trans ((NavActs.evaluateConditions (clearFresh s)).trans
    ((NavActs.countActivation trivial _).trans (NavActs.countActivation trivial _)))

/-- The frame end acts on the state whose oldest key is gone, with F taken and both marks cleared (R132). -/
theorem navActs_navEnd (s : State) :
    NavActs (fun _ => True) (s.taken.setNav { s.taken.nav with keys := s.nav.keys.tail }) (navEnd s) := by
  have until_ := navActs_untilKey s
  have key := NavActs.takeOneKey (countActivation .popup (countActivation .menu (evaluateConditions (clearFresh s))))
  rw [until_.keys] at key
  exact (until_.setKeys s.nav.keys.tail).trans
    (key.trans ((NavActs.stepHeadsIn trivial _).trans (NavActs.stepHeadsIn trivial _)))

/-! ### Every frame end by the rules (R132) -/

theorem clearFresh_shownDef (s : State) (c : NavCtx) : shownDef (clearFresh s) c = shownDef s c :=
  (NavActs.clearFresh s).shownDef c

/-- Step 3 (R135). -/
theorem takeOneKey_eq_rule {s : State} (hl : ∀ c, (s.nav.get c).buttons.length = (shownDef s c).buttons.length) :
    takeOneKey s =
      match s.nav.keys with
      | [] => s
      | e :: rest => keyByRule e { s with nav := { s.nav with keys := rest } } := by
  cases h : s.nav.keys with
  | nil => exact takeOneKey_nil h
  | cons e rest =>
    refine (takeOneKey_cons h).trans (handleKey_eq_rule (fun c => ?_) e)
    cases c
    · exact hl .menu
    · exact hl .popup

/-- The whole frame end, given a state for each button of the navigation pages. -/
theorem navEnd_eq_rule {s : State} (hl : ∀ c, (s.nav.get c).buttons.length = (shownDef s c).buttons.length) :
    navEnd s = navEndByRule s := by
  have h1 := evaluateConditions_eq (clearFresh s)
  have ev (c : NavCtx) : evaluatedNav (clearFresh s) c =
      if s.nav.flagsChanged = true ∨ s.nav.redefined = true then
        evaluateByRule (shownDef s c) s.nav.flags (s.nav.get c).clearFresh
      else (s.nav.get c).clearFresh := by
    rw [evaluatedNav, clearFresh_shownDef, clearFresh_get, evaluateByRule_eq, evaluateNav_eq]
    · rfl
    · rw [NavState.clearFresh_length, hl]
  rw [ev, ev] at h1
  have complete := (navActs_untilKey s).complete (s := s.taken) hl
  unfold navEnd
  rw [stepBoth_eq, takeOneKey_eq_rule complete, countActivation_eq_rule, countActivation_eq_rule, h1]
  simp only [stepHeads_eq_rule]
  rfl

end Sys2Proof.Machine
end

section
/-! PROOFS. The navigation frame end as it leaves one context that no key and no expiry meets, and its result (R126, R132 to
R134). -/

namespace Sys2Proof.Machine

open Sys2Proof

/-! ### One context without a key and without an expiry -/

/-- A navigation state whose activation has counted down by 1. -/
def NavState.counted (n : NavState) : NavState :=
  { n with activation := n.activation.map fun a => { a with left := a.left - 1 } }

theorem counted_of_none {n : NavState} (h : n.activation = none) : n.counted = n := by
  obtain ⟨_, _, _, a, _⟩ := n
  obtain rfl : a = none := h
  rfl

theorem countActivation_none {c : NavCtx} {s : State} (h : (s.nav.get c).activation = none) : countActivation c s = s := by
  simp only [countActivation, h]

theorem countActivation_goesOn {c : NavCtx} {s : State} (h : ∀ a, (s.nav.get c).activation = some a → 1 < a.left) :
    (countActivation c s).nav.get c = (s.nav.get c).counted := by
  cases ha : (s.nav.get c).activation with
  | none => rw [countActivation_none ha, counted_of_none ha]
  | some a =>
    simp only [countActivation, NavState.counted, ha, Nat.not_le.2 (h a ha), ↓reduceIte, State.setNavState,
      State.setNav_nav, Nav.set_get, Option.map_some]

theorem countActivation_other {c e : NavCtx} (h : c ≠ e) (s : State) :
    (countActivation e s).nav.get c = s.nav.get c :=
  (NavActs.countActivation (P := (· = e)) rfl s).other c h

/-- Step 2 in a context where no hold runs out, whatever the other context's activation executes (R134, R141). -/
theorem countBoth_get {c : NavCtx} {s : State} (h : ∀ a, (s.nav.get c).activation = some a → 1 < a.left) :
    (countActivation .popup (countActivation .menu s)).nav.get c = (s.nav.get c).counted := by
  cases c with
  | menu => rw [countActivation_other (by decide), countActivation_goesOn h]
  | popup =>
    have same := countActivation_other (c := .popup) (e := .menu) (by decide) s
    rw [countActivation_goesOn (by rwa [same]), same]

/-- The navigation state of a context at the end of a frame end with no key and no expiry in it. -/
theorem navEnd_get {c : NavCtx} {s : State} (hk : s.nav.keys = [])
    (h : ∀ a, (evaluatedNav (clearFresh s) c).activation = some a → 1 < a.left) :
    (navEnd s).nav.get c = stepHeads (shownDef s c) (evaluatedNav (clearFresh s) c).counted := by
  have until_ := navActs_untilKey s
  have keys : (countActivation .popup (countActivation .menu (evaluateConditions (clearFresh s)))).nav.keys = [] :=
    until_.keys.trans hk
  rw [← evaluateConditions_get] at h
  rw [navEnd, takeOneKey_nil keys, stepBoth_get, until_.shownDef c, countBoth_get h, evaluateConditions_get]
  rfl

/-- With no activation and no key no flag is changed in a frame end. -/
theorem navEnd_flagsChanged {s : State} (hk : s.nav.keys = []) (ha : ∀ c, (s.nav.get c).activation = none) :
    (navEnd s).nav.flagsChanged = false := by
  have none_ (c : NavCtx) : ((evaluateConditions (clearFresh s)).nav.get c).activation = none := by
    have hc : ((clearFresh s).nav.get c).activation = none := by rw [clearFresh_get]; exact ha c
    rw [evaluateConditions_get, evaluatedNav]
    split
    · exact evaluateNav_activation_none _ _ hc
    · exact hc
  have counted : countActivation .popup (countActivation .menu (evaluateConditions (clearFresh s))) =
      evaluateConditions (clearFresh s) := by
    rw [countActivation_none (none_ .menu), countActivation_none (none_ .popup)]
  have keys := (navActs_untilKey s).keys.trans hk
  rw [counted] at keys
  rw [navEnd, counted, takeOneKey_nil keys, evaluateConditions_eq]
  rfl

/-! ### One button -/

/-- A button at the start of a frame end: its mark of a restart is cleared (log entries 8 and 30). -/
def ButtonNav.clearFresh (y : ButtonNav) : ButtonNav :=
  { y with head := y.head.map fun h => { h with fresh := false } }

theorem headByRule_restarted (d : PageDef) (b : Button) (x : ButtonState) {a : Animation}
    (h : animationByRule d b x = some a) : (headByRule d b x true).map (Playhead.step a) = headByRule d b x false := by
  simp only [headByRule, h, Option.map_some, Playhead.step_eq_rule, ↓reduceIte]

theorem stepByRule_clear (a : Animation) (h : Playhead) :
    stepByRule a { h with fresh := false } = { stepByRule a h with fresh := false } := by
  unfold stepByRule
  dsimp only
  split_ifs
  · rfl
  · rfl
  · rfl
  · cases a.mode <;> rfl

/-- A button that enters state `z` within a frame end, as step 4 leaves it. -/
theorem stepped_become {d : PageDef} {i : Nat} {b : Button} (hb : d.buttons[i]? = some b) (x : ButtonNav)
    (z : ButtonState) {y : ButtonNav} (hy : y = (x.clearFresh.become d i z).mapHead d i Playhead.step) :
    y.state = z ∧ (y.state ≠ x.state → y.head = headByRule d b y.state false) ∧
      (y.state = x.state → y.head = x.head.map fun h =>
        { ((animationByRule d b x.state).map (stepByRule · h)).getD h with fresh := false }) := by
  have plays (w : ButtonNav) : (d.buttons[i]?.bind fun b => animationByRule d b w.state) = animationByRule d b w.state := by
    rw [hb, Option.bind_some]
  have state (w : ButtonNav) : (w.mapHead d i Playhead.step).state = w.state := by
    cases h : animationByRule d b w.state with
    | none => rw [mapHead_none ((plays w).trans h)]
    | some a => rw [mapHead_some ((plays w).trans h)]
  have hz : y.state = z := by rw [hy, state, become_state hb]
  refine ⟨hz, fun hne => ?_, fun he => ?_⟩
  · rw [hz] at hne ⊢
    rw [hy, become_some hb, if_neg fun e => hne e.symm]
    cases h : animationByRule d b z with
    | none => rw [mapHead_none ((plays _).trans h), headByRule, headByRule, h]; rfl
    | some a => rw [mapHead_some ((plays _).trans h)]; exact headByRule_restarted d b z h
  · have hx : x.clearFresh.become d i z = x.clearFresh := by rw [← hz, he]; exact become_same d i x.clearFresh
    rw [hy, hx]
    cases h : animationByRule d b x.state with
    | none => rw [mapHead_none ((plays x.clearFresh).trans h)]; rfl
    | some a =>
      rw [mapHead_some ((plays x.clearFresh).trans h)]
      simp only [ButtonNav.clearFresh, Option.map_map, Option.map_some, Option.getD_some]
      congr 1
      funext h
      simp only [Function.comp_apply, Playhead.step_eq_rule, Bool.false_eq_true, ↓reduceIte, stepByRule_clear]

theorem stepHeads_button (d : PageDef) (n : NavState) (m : Nat) :
    (stepHeads d n).buttons[m]? = n.buttons[m]?.map fun y => y.mapHead d m Playhead.step := by
  simp only [stepHeads, mapAt_zero_eq_mapIdx, List.getElem?_mapIdx]

/-! ### Step 1 with a mark and without -/

/-- What step 1 leaves of a context with a state for each button. -/
def NavState.atStep1 (marked : Bool) (d : PageDef) (flags : Half) (n : NavState) : NavState :=
  if marked then n.clearFresh.evaluated d flags else n.clearFresh

theorem evaluatedNav_clearFresh {s : State} {c : NavCtx} {d : PageDef} (hd : shownDef s c = d)
    (hl : (s.nav.get c).buttons.length = d.buttons.length) :
    evaluatedNav (clearFresh s) c =
      (s.nav.get c).atStep1 (s.nav.flagsChanged || s.nav.redefined) d s.nav.flags := by
  rw [evaluatedNav, clearFresh_shownDef, hd, clearFresh_get, evaluateNav_eq (by rw [NavState.clearFresh_length, hl])]
  exact if_congr (by rw [Bool.or_eq_true]; rfl) rfl rfl

section AtStep1

variable (marked : Bool) (d : PageDef) (flags : Half) (n : NavState)

theorem atStep1_page : (n.atStep1 marked d flags).page = n.page := by cases marked <;> rfl

theorem atStep1_stack : (n.atStep1 marked d flags).stack = n.stack := by cases marked <;> rfl

theorem atStep1_selected :
    (n.atStep1 marked d flags).selected =
      if (marked && selectionMoves d flags n.selected) = true then d.lowestHolding flags else n.selected := by
  cases marked <;> rfl

theorem atStep1_activation :
    (n.atStep1 marked d flags).activation = n.activation.filter fun a => !marked || d.selectable flags a.button := by
  cases marked with
  | true => rfl
  | false =>
    change n.activation = _
    cases n.activation <;> rfl

/-- The state that step 1 gives button `m`, which is in state `x`. -/
def stateAtStep1 (selected : Option Nat) (m : Nat) (x : ButtonState) : ButtonState :=
  if marked = false then x
  else evaluatedState d flags (if selectionMoves d flags selected then d.lowestHolding flags else none) m x

theorem atStep1_button (m : Nat) :
    (n.atStep1 marked d flags).buttons[m]? =
      n.buttons[m]?.map fun x => x.clearFresh.become d m (stateAtStep1 marked d flags n.selected m x.state) := by
  have clear : n.clearFresh.buttons[m]? = n.buttons[m]?.map ButtonNav.clearFresh := List.getElem?_map ..
  cases marked with
  | false =>
    refine clear.trans (congrArg (Option.map · n.buttons[m]?) (funext fun x => ?_))
    exact (become_same d m x.clearFresh).symm
  | true =>
    refine List.getElem?_mapIdx.trans ?_
    rw [clear, Option.map_map]
    rfl

theorem atStep1_length : (n.atStep1 marked d flags).buttons.length = n.buttons.length := by
  cases marked with
  | false => exact NavState.clearFresh_length n
  | true => exact List.length_mapIdx.trans (NavState.clearFresh_length n)

variable {d} in
theorem stateAtStep1_some {m : Nat} {b : Button} (hb : d.buttons[m]? = some b) (selected : Option Nat) (x : ButtonState) :
    stateAtStep1 marked d flags selected m x =
      if marked = false then x
      else if b.condHolds flags = false then (if b.mode = .showIf then .hidden else .disabled)
      else if (marked && selectionMoves d flags selected) = true ∧ d.lowestHolding flags = some m then .selected
      else if x = .hidden ∨ x = .disabled then .normal
      else x := by
  unfold stateAtStep1 evaluatedState
  cases marked with
  | false => rfl
  | true => simp only [hb, ite_none_eq_some, Bool.true_and]

end AtStep1

/-! ### The result -/

theorem exec_navFrameEnd {s : State} (h : s.resetLow = false) : exec .navFrameEnd s = .next (settleSkew (navEnd s)) :=
  congrArg Host.Outcome.next (unlessHeld_high h _)

/-- Settles O45. A context that no key and no expiry meets is what step 1 leaves of it, counted and stepped; a button is
evaluated to the state that the rule names, or left in its own where no mark is set. -/
theorem navFrameEndResult : Obligations.NavFrameEndResult := by
  refine ⟨fun s hs => ?_, ?_, fun s hs hl => ?_⟩
  · have acts := navActs_navEnd s
    have front := navEnd_front s
    have picture := navEnd_picture s
    exact ⟨_, exec_navFrameEnd hs, acts.keys, acts.resting, acts.redefined, port_of_front front, decoder_of_front front,
      store_of_front front, mem_of_front front, palette_of_picture picture, mixer_of_picture picture, acts.engine,
      acts.schedule⟩
  · intro c p s hs hk hp n d marked holds hl hgo lowest moves selected state
    have hd : shownDef s c = d := by rw [shownDef, hp]
    have hev : evaluatedNav (clearFresh s) c = n.atStep1 marked d s.nav.flags := evaluatedNav_clearFresh hd hl
    have hget : (navEnd s).nav.get c = stepHeads d (n.atStep1 marked d s.nav.flags).counted := by
      refine (navEnd_get hk fun a ha => ?_).trans (by rw [hev, hd])
      rw [hev, atStep1_activation, Option.filter_eq_some_iff] at ha
      obtain ⟨ha, hkeep⟩ := ha
      obtain ⟨hm, hh⟩ | hlt := hgo a ha
      · rw [hm, show d.selectable s.nav.flags a.button = false from hh] at hkeep
        exact absurd hkeep (by decide)
      · exact hlt
    refine ⟨_, exec_navFrameEnd hs, ?_⟩
    change ((navEnd s).nav.get c).page = _ ∧ ((navEnd s).nav.get c).stack = _ ∧ ((navEnd s).nav.get c).selected = _ ∧
      ((navEnd s).nav.get c).activation = _ ∧ ((navEnd s).nav.get c).buttons.length = _ ∧
      (∀ m b x y, _ → _ → ((navEnd s).nav.get c).buttons[m]? = _ → _) ∧ (_ → (navEnd s).nav.flagsChanged = _)
    rw [hget]
    refine ⟨?_, ?_, ?_, ?_, ?_, fun m b x y hb hx hy => ?_, navEnd_flagsChanged hk⟩
    · exact (atStep1_page ..).trans hp
    · exact atStep1_stack ..
    · exact atStep1_selected ..
    · exact congrArg (Option.map fun a : Activation => { a with left := a.left - 1 }) (atStep1_activation ..)
    · exact (stepHeads_length ..).trans (atStep1_length ..)
    · rw [stepHeads_button] at hy
      change ((n.atStep1 marked d s.nav.flags).buttons[m]?.map _) = some y at hy
      rw [atStep1_button, hx] at hy
      have hstate : stateAtStep1 marked d s.nav.flags n.selected m x.state = state m b x.state :=
        stateAtStep1_some marked s.nav.flags hb n.selected x.state
      rw [← hstate]
      exact stepped_become hb x _ (Option.some.inj hy).symm
  · rw [exec_navFrameEnd hs, navEnd_eq_rule hl]
    rfl

end Sys2Proof.Machine
end

section
/-! PROOFS. The bodies of Slide List and Slide Control: what their readers make of a body that passes its checks, field by
field (R146 to R149, 11.8). -/

namespace Sys2Proof.Machine

open Sys2Proof

/-! ### Fields of a record -/

/-- A record by itself. -/
theorem liesAt_self (size : Nat) (r : List Byte) : LiesAt size r r 0 := fun i _ => by rw [Nat.zero_add]

section Record

variable {size : Nat} {r b : List Byte} {o : Nat} (h : LiesAt size r b o)
include h

theorem LiesAt.ofHalf {i : Nat} (hi : i + 1 < size) : at16 r i = BitVec.ofNat 16 (num16 b (o + i)) := by
  rw [← h.half hi, BitVec.ofNat_toNat, BitVec.setWidth_eq]

theorem LiesAt.mask {i : Nat} (hi : i + 3 < size) :
    ({ mask := at16 r i, compare := at16 r (i + 2) } : MaskCompare) = maskAt b (o + i) := by
  rw [h.ofHalf (by omega), h.ofHalf (i := i + 2) (by omega)]; rfl

theorem LiesAt.time {i : Nat} (hi : i + 3 < size) : at32 r i = timeAt b (o + i) := by
  refine BitVec.eq_of_toNat_eq ?_
  have hhigh := (at16 r i).isLt
  have hlow := (at16 r (i + 2)).isLt
  rw [at32, toNat_append_add, timeAt, ← h.half (by omega), Nat.add_assoc, ← h.half (i := i + 2) (by omega),
    BitVec.toNat_ofNat]
  omega

/-- A transition kind with its length, which is stored as CUT where it is 0 (11.2). -/
theorem LiesAt.transition {i : Nat} (hi : i + 1 < size) (hk : num8 b (o + i) ≤ 2) :
    readTransition (at8 r i) (at8 r (i + 1)) = some (transitionAt b (o + i)) := by
  have hn : num8 b (o + i + 1) = (at8 r (i + 1)).toNat := (h.byte hi).symm
  have hzero : (at8 r (i + 1)).toNat = 0 ↔ at8 r (i + 1) = 0 := (byte_eq_iff _ 0).symm
  rw [readTransition, h.byte (Nat.lt_of_succ_lt hi), transitionAt, hn, BitVec.ofNat_toNat, BitVec.setWidth_eq]
  simp only [hzero]
  generalize num8 b (o + i) = k at hk
  interval_cases k <;> by_cases hl : at8 r (i + 1) = 0 <;> simp [hl]

end Record

/-! ### A configuration (R148) -/

section Config

variable {b : List Byte} {o : Nat}

theorem readStartKind_eq {x : Byte} (hx : x.toNat = num8 b o) (h : num8 b o ≤ 3) :
    readStartKind x = some (configAt b o).startKind := by
  dsimp only [readStartKind, configAt]
  rw [hx]
  generalize num8 b o = n at h
  interval_cases n <;> rfl

theorem readStopKind_eq {x : Byte} (hx : x.toNat = num8 b (o + 9)) (h : num8 b (o + 9) ≤ 2) :
    readStopKind x = some (configAt b o).stopKind := by
  dsimp only [readStopKind, configAt]
  rw [hx]
  generalize num8 b (o + 9) = n at h
  interval_cases n <;> rfl

theorem readEndMode_eq {x : Byte} (hx : x.toNat = num8 b (o + 15)) (h : num8 b (o + 15) ≤ 2) :
    readEndMode x = some (configAt b o).endMode := by
  dsimp only [readEndMode, configAt]
  rw [hx]
  generalize num8 b (o + 15) = n at h
  interval_cases n <;> rfl

/-- A configuration is read from its offsets (R148, 11.8). -/
theorem readConfig_eq {r : List Byte} (h : LiesAt 16 r b o) (hf : ConfigFits b o) : readConfig r = some (configAt b o) := by
  obtain ⟨hstart, hstop, hdrain, hend⟩ := hf
  have hcount : (at8 r 14).toNat = num8 b (o + 14) := h.byte (by decide)
  rw [readConfig, readStartKind_eq (h.byte (i := 0) (by decide)) hstart, readStopKind_eq (h.byte (by decide)) hstop,
    readEndMode_eq (h.byte (by decide)) hend]
  simp only [hcount, if_pos hdrain, h.time (i := 1) (by decide), h.mask (i := 5) (by decide), h.mask (i := 10) (by decide)]
  rfl

end Config

/-! ### Slide List (R147) -/

/-- An entry is read from its offsets (R146, 11.8). -/
theorem readSlideEntry_eq {r b : List Byte} {o : Nat} (h : LiesAt 10 r b o) (hp : num8 b o ≤ 31)
    (ht : num8 b (o + 3) ≤ 2) : readSlideEntry r = some (slideAt b o) := by
  have hpage : finOf? Config.numPages (at8 r 0).toNat = some (Fin.ofNat 32 (num8 b o)) := by
    obtain ⟨p, e⟩ := Option.isSome_iff_exists.mp ((readPageId_isSome _).mpr ((h.byte (i := 0) (by decide)).trans_le hp))
    rw [e, finOf?_eq e, h.byte (by decide)]; rfl
  have hcue : at8 r 5 = 0xFF ↔ num8 b (o + 5) = 0xFF := by rw [byte_eq_iff, h.byte (by decide)]; rfl
  have hbyte : at8 r 5 = BitVec.ofNat 8 (num8 b (o + 5)) := by
    rw [← h.byte (i := 5) (by decide), BitVec.ofNat_toNat, BitVec.setWidth_eq]
  rw [readSlideEntry, hpage, h.transition (i := 3) (by decide) ht]
  simp only [hcue, h.half (i := 1) (by decide), h.mask (i := 6) (by decide)]
  rw [hbyte]
  rfl

theorem allSome_map_some {α : Type} (l : List α) : allSome (l.map some) = some l := by
  induction l with
  | nil => rfl
  | cons x l ih => exact congrArg (Option.map (x :: ·)) ih

/-- A Slide List body that passes its checks is read as its configuration, its arm flag and its entries (R147, 11.3). -/
theorem readSlideList_eq {b : List Byte} (hf : SlideListFits b) :
    readSlideList b = some { config := configAt b 1, arm := num8 b 17 = 1, list := slidesOf b } := by
  obtain ⟨hlen, hcount, hconfig, harm, hentries⟩ := hf
  have hflag : readFlag (at8 b 17) = some (decide (num8 b 17 = 1)) := by
    simp only [readFlag, byte_eq_iff (at8 b 17) 0, byte_eq_iff (at8 b 17) 1, ← num8_eq]
    generalize num8 b 17 = n at harm
    interval_cases n <;> rfl
  have hlist : allSome ((records 10 (num8 b 0) (b.drop 18)).map readSlideEntry) = some (slidesOf b) := by
    rw [records_eq, List.map_map, slidesOf, ← allSome_map_some, List.map_map]
    refine congrArg allSome (List.map_congr_left fun j hj => ?_)
    obtain ⟨hpage, htrans⟩ := hentries j (List.mem_range.mp hj)
    exact readSlideEntry_eq (liesAt_take_drop 10 _ b) hpage htrans
  unfold readSlideList
  rw [← num8_eq, if_pos ⟨by omega, hcount, hlen⟩, readConfig_eq (liesAt_drop 16 1 b) hconfig, hflag, hlist]

/-! ### Ranges -/

theorem num16_lt (b : List Byte) (o : Nat) : num16 b o < 65536 := by
  have hhigh := num8_lt b o
  have hlow := num8_lt b (o + 1)
  rw [num16]; omega

theorem ofNat_num8_eq_iff (b : List Byte) (o : Nat) (x : Byte) : BitVec.ofNat 8 (num8 b o) = x ↔ num8 b o = x.toNat := by
  rw [byte_eq_iff, BitVec.toNat_ofNat, Nat.mod_eq_of_lt (num8_lt b o)]

/-- No transition of length 0 is stored (R82, R147). -/
theorem transitionAt_ne (b : List Byte) (o : Nat) : transitionAt b o ≠ .crossfade 0 ∧ transitionAt b o ≠ .wipe 0 := by
  have hlen : ¬(num8 b o = 0 ∨ num8 b (o + 1) = 0) → BitVec.ofNat 8 (num8 b (o + 1)) ≠ 0 := fun h e =>
    h (.inr ((ofNat_num8_eq_iff b (o + 1) 0).mp e))
  unfold transitionAt
  split_ifs with hz hk
  · simp
  · simpa using hlen hz
  · simpa using hlen hz

/-- An entry holds its fields within their ranges (R146). -/
theorem slideAt_ranges (b : List Byte) (o : Nat) :
    (slideAt b o).duration ≤ 65535 ∧ (slideAt b o).trans ≠ .crossfade 0 ∧ (slideAt b o).trans ≠ .wipe 0 ∧
      (slideAt b o).cue ≠ some 0xFF := by
  obtain ⟨hfade, hwipe⟩ := transitionAt_ne b (o + 3)
  refine ⟨Nat.le_of_lt_succ (num16_lt b (o + 1)), hfade, hwipe, ?_⟩
  dsimp only [slideAt]
  split
  · simp
  · next hcue => exact fun e => hcue ((ofNat_num8_eq_iff b (o + 5) 0xFF).mp (Option.some.inj e))

theorem slidesOf_length (b : List Byte) : (slidesOf b).length = num8 b 0 := by
  rw [slidesOf, List.length_map, List.length_range]

theorem slidesOf_ranges (b : List Byte) :
    ∀ e ∈ slidesOf b, e.duration ≤ 65535 ∧ e.trans ≠ .crossfade 0 ∧ e.trans ≠ .wipe 0 ∧ e.cue ≠ some 0xFF := by
  intro e he
  obtain ⟨j, -, rfl⟩ := List.mem_map.mp he
  exact slideAt_ranges b _

/-- A Slide List that has been read (R147). -/
theorem readSlideList_some {b : List Byte} {g : SlideListSegment} (h : readSlideList b = some g) :
    SlideListFits b ∧ g = { config := configAt b 1, arm := num8 b 17 = 1, list := slidesOf b } := by
  have hf : SlideListFits b := (readSlideList_isSome b).mp (by rw [h]; rfl)
  exact ⟨hf, Option.some.inj (h.symm.trans (readSlideList_eq hf))⟩

/-! ### Slide Control (R149) -/

/-- A configuration that has been read (R148). -/
theorem readConfig_some {r : List Byte} {c : SlideConfig} (h : readConfig r = some c) :
    ConfigFits r 0 ∧ c = configAt r 0 := by
  have hf : ConfigFits r 0 := (readConfig_isSome (liesAt_self 16 r)).mp (by rw [h]; rfl)
  exact ⟨hf, Option.some.inj (h.symm.trans (readConfig_eq (liesAt_self 16 r) hf))⟩

/-- A CONFIGURE body is read as its configuration (R149, 11.8). -/
theorem readSlideControl_configure {r : List Byte} (hlen : r.length = 16) (hf : ConfigFits r 0) :
    readSlideControl (SlideOp.configure.code :: r) = some (.configure (configAt r 0)) :=
  (if_pos hlen).trans (congrArg (Option.map SlideCommand.configure) (readConfig_eq (liesAt_self 16 r) hf))

/-- A CONFIGURE that has been read carries a configuration that has been read. -/
theorem readConfig_of_readSlideControl {op : Byte} {r : List Byte} {c : SlideConfig}
    (h : readSlideControl (op :: r) = some (.configure c)) : readConfig r = some c := by
  rw [readSlideControl] at h
  split at h
  · split at h
    · obtain ⟨x, hx, e⟩ := Option.map_eq_some_iff.mp h
      cases e
      exact hx
    · cases h
  · split at h
    · split at h <;> cases h
    · cases h

/-- The drain count of a CONFIGURE lies in its range (R148). -/
theorem readSlideControl_drainCount {b : List Byte} {c : SlideConfig} (h : readSlideControl b = some (.configure c)) :
    c.drainCount ≤ 63 := by
  cases b with
  | nil => cases h
  | cons op r =>
    obtain ⟨⟨-, -, hdrain, -⟩, rfl⟩ := readConfig_some (readConfig_of_readSlideControl h)
    exact hdrain

end Sys2Proof.Machine
end

section
/-! PROOFS. What the sequencer's own operations leave of its laws (R145, R146, R148). -/

namespace Sys2Proof.Machine

open Sys2Proof

/-! ### The laws by the sequencer alone -/

/-- What leaves the sequencer alone keeps its laws. -/
theorem SeqInv.of_seq {s t : State} (h : SeqInv s) (e : t.seq = s.seq) : SeqInv t := by
  constructor <;> rw [e]
  exacts [h.list, h.entries, h.counting, h.targetRuns, h.dwellRuns, h.targetEntry, h.shownEntry, h.placedEntry, h.drain]

theorem SeqInv.raise {s : State} (h : SeqInv s) (b : ReportBody) : SeqInv (s.raise b) := h.of_seq rfl

/-- Outside the running states there is neither target nor dwell (R145). -/
theorem SeqInv.idle {s : State} (h : SeqInv s) (hr : s.seq.run.isRunning = false) :
    s.seq.target = none ∧ s.seq.dwell = .absent := by
  constructor
  · refine Option.eq_none_iff_forall_ne_some.mpr fun t ht => ?_
    rw [h.targetRuns t ht] at hr
    cases hr
  · by_contra hd
    rw [(h.dwellRuns hd).1] at hr
    cases hr

/-- A running state is entered. -/
theorem SeqInv.setRunning {s : State} (h : SeqInv s) {r : RunState} (hr : r.isRunning = true) :
    SeqInv (s.setSeq { s.seq with run := r }) :=
  { h with
    targetRuns := fun _ _ => hr
    dwellRuns := fun hd => ⟨hr, (h.dwellRuns hd).2⟩ }

/-- A run that has ended leaves neither target, dwell nor drain (R162). -/
theorem SeqInv.endRun {s : State} (h : SeqInv s) (why : EndReason) (final : RunState) : SeqInv (endRun why final s) :=
  { h with
    counting := fun _ hd => nomatch hd
    targetRuns := fun _ ht => nomatch ht
    dwellRuns := fun hd => absurd rfl hd
    targetEntry := fun _ ht => nomatch ht
    drain := ⟨Nat.zero_le 63, h.drain.2⟩ }

/-! ### Scans and advances (R153, R154, R160) -/

/-- A scan leaves the sequencer alone. -/
theorem scanEntries_seq (order : List Nat) (s : State) : (scanEntries order s).2.seq = s.seq := by
  rw [scanEntries_eq_rule]

/-- The entry that a scan finds lies within the list. -/
theorem scanEntries_some {order : List Nat} {s : State} {i : Nat} (h : (scanEntries order s).1 = some i) :
    i < s.seq.list.length := by
  rw [scanEntries_eq_rule] at h
  have hfound := List.find?_some h
  dsimp only at hfound
  by_contra hi
  rw [List.getElem?_eq_none (Nat.le_of_not_lt hi)] at hfound
  cases hfound

/-- An entry of the list becomes the target of a run (R153). -/
theorem SeqInv.aim {s : State} (h : SeqInv s) (hr : s.seq.run.isRunning = true) {i : Nat} (hi : i < s.seq.list.length) :
    SeqInv (s.setSeq (s.seq.aim i)) :=
  { h with
    counting := fun _ hd => nomatch hd
    targetRuns := fun _ _ => hr
    dwellRuns := fun hd => absurd rfl hd
    targetEntry := fun t ht => by obtain rfl := Option.some.inj ht; exact ⟨hi, Nat.zero_le _⟩ }

/-- The outcome of a scan, found or not, taken apart once. -/
theorem SeqInv.scan {s : State} (h : SeqInv s) {order : List Nat} {found : Option Nat} {t : State}
    (e : scanEntries order s = (found, t)) : SeqInv t ∧ t.seq = s.seq ∧ ∀ i, found = some i → i < t.seq.list.length := by
  have hseq : t.seq = s.seq := by rw [← scanEntries_seq order s, e]
  refine ⟨h.of_seq hseq, hseq, fun i hi => ?_⟩
  rw [hseq]
  exact scanEntries_some (by rw [e]; exact hi)

theorem SeqInv.advanceScan {s : State} (h : SeqInv s) (hr : s.seq.run.isRunning = true) (ref : Option Nat) :
    SeqInv (advanceScan ref s) := by
  unfold Machine.advanceScan
  split
  · next i t e =>
    obtain ⟨ht, hseq, hi⟩ := h.scan e
    exact ht.aim (hseq ▸ hr) (hi i rfl)
  · next t e =>
    obtain ⟨ht, -, -⟩ := h.scan e
    split
    · exact (ht.raise _).endRun ..
    · exact ht.endRun ..

theorem SeqInv.advanceFrom {s : State} (h : SeqInv s) (hr : s.seq.run.isRunning = true) (ref : Option Nat) :
    SeqInv (advanceFrom ref s) := by
  have counted : SeqInv (s.setSeq { s.seq with drain := s.seq.drain - 1 }) :=
    { h with drain := ⟨(Nat.sub_le ..).trans h.drain.1, h.drain.2⟩ }
  unfold Machine.advanceFrom
  split
  · split
    · exact h.endRun ..
    · exact counted.advanceScan hr ref
  · exact h.advanceScan hr ref

theorem SeqInv.advance {s : State} (h : SeqInv s) (hr : s.seq.run.isRunning = true) : SeqInv (advance s) :=
  h.advanceFrom hr _

theorem SeqInv.backStep {s : State} (h : SeqInv s) (hr : s.seq.run.isRunning = true) : SeqInv (backStep s) := by
  unfold Machine.backStep
  split
  · exact h
  · split
    · next i t e =>
      obtain ⟨ht, hseq, hi⟩ := h.scan e
      exact ht.aim (hseq ▸ hr) (hi i rfl)
    · next t e => exact (h.scan e).1

/-! ### Triggers (R150 to R152) -/

theorem SeqInv.startRun {s : State} (h : SeqInv s) (source : StartedBy) (e : Nat) : SeqInv (startRun source e s) := by
  unfold Machine.startRun
  split
  · next i t hscan =>
    obtain ⟨ht, hseq, hi⟩ := (h.setRunning rfl).scan hscan
    have aimed := ht.aim (by rw [hseq]; rfl) (hi i rfl)
    have started : SeqInv (t.setSeq { t.seq.aim i with drain := 0 }) :=
      { aimed with drain := ⟨Nat.zero_le 63, aimed.drain.2⟩ }
    exact started.raise _
  · next t hscan => exact (((h.setRunning rfl).scan hscan).1.raise _).endRun ..

theorem SeqInv.startTrigger {s : State} (h : SeqInv s) (source : StartedBy) (e : Nat) :
    SeqInv (startTrigger source e s) := by
  unfold Machine.startTrigger
  cases s.seq.run with
  | idle | running | held | draining => exact h
  | armed => exact h.startRun ..
  | ended =>
    dsimp only
    split
    · exact h
    · exact h.startRun ..

theorem SeqInv.stopTrigger {s : State} (h : SeqInv s) : SeqInv (stopTrigger s) := by
  have draining : SeqInv (s.setSeq { s.seq with run := .draining, drain := s.seq.config.drainCount }) :=
    { h.setRunning (r := .draining) rfl with drain := ⟨h.drain.2, h.drain.2⟩ }
  have running : SeqInv (if s.seq.config.drainCount = 0 then Machine.endRun .stop .ended s
      else s.setSeq { s.seq with run := .draining, drain := s.seq.config.drainCount }) := by
    split
    · exact h.endRun ..
    · exact draining
  unfold Machine.stopTrigger
  cases s.seq.run with
  | idle | armed | ended | draining => exact h
  | running | held => exact running

theorem SeqInv.flagsNotice {s : State} (h : SeqInv s) (new : Half) : SeqInv (flagsNotice new s) := by
  have copied : SeqInv (s.setSeq { s.seq with flagsCopy := new }) := { h with }
  unfold Machine.flagsNotice
  dsimp only
  split_ifs
  · exact (copied.startTrigger ..).stopTrigger
  · exact copied.stopTrigger
  · exact copied.startTrigger ..
  · exact copied

/-! ### Keys (R160) -/

theorem SeqInv.slideKey {s : State} (h : SeqInv s) (k : SlideKey) : SeqInv (slideKey k s) := by
  unfold Machine.slideKey
  cases hr : s.seq.run with
  | idle | armed | ended => exact h
  | running =>
    have running : s.seq.run.isRunning = true := by rw [hr]; rfl
    cases k with
    | pause | pauseResume => exact h.setRunning rfl
    | resume => exact h
    | next => exact h.advance running
    | prev => exact h.backStep running
  | held =>
    have running : s.seq.run.isRunning = true := by rw [hr]; rfl
    cases k with
    | pause => exact h
    | resume | pauseResume => exact h.setRunning rfl
    | next => exact h.advance running
    | prev => exact h.backStep running
  | draining =>
    cases k with
    | next => exact h.advance (by rw [hr]; rfl)
    | pause | resume | pauseResume | prev => exact h

end Sys2Proof.Machine
end

section
/-! PROOFS. What the sequencer's frame end, the notices it hears and its segments leave of its laws (R147 to R149, R155 to
R159, R161, R163). -/

namespace Sys2Proof.Machine

open Sys2Proof

/-! ### The frame end (R161) -/

/-- A dwell that a duration begins lies in its range (R157). -/
theorem dwellFor_counting {duration n : Nat} (hle : duration ≤ 65535) (h : dwellFor duration = .counting n) :
    1 ≤ n ∧ n ≤ 65535 := by
  unfold dwellFor at h
  split at h
  · cases h
  · cases h; omega

theorem SeqInv.durationOf_le {s : State} (h : SeqInv s) (i : Nat) : s.seq.durationOf i ≤ 65535 := by
  unfold Sequencer.durationOf
  cases hi : s.seq.list[i]? with
  | none => exact Nat.zero_le _
  | some e => exact (h.entries e (List.mem_of_getElem? hi)).1

theorem SeqInv.expireDwell {s : State} (h : SeqInv s) (hr : s.seq.run.isRunning = true) : SeqInv (expireDwell s) := by
  have cleared : SeqInv (s.setSeq { s.seq with dwell := .absent }) :=
    { h with
      counting := fun _ hd => nomatch hd
      dwellRuns := fun hd => absurd rfl hd }
  exact cleared.advance hr

/-- RUNNING and DRAINING, in which a dwell counts (R159), are running states. -/
theorem isRunning_of_counts {r : RunState} (h : r = .running ∨ r = .draining) : r.isRunning = true := by
  rcases h with rfl | rfl <;> rfl

theorem SeqInv.countDwell {s : State} (h : SeqInv s) : SeqInv (countDwell s) := by
  unfold Machine.countDwell
  split
  · next hr =>
    have running := isRunning_of_counts hr
    split
    · next n hd =>
      split
      · exact h.expireDwell running
      · next hn =>
        have hle := (h.counting n hd).2
        exact
          { h with
            counting := fun m hm => by obtain rfl : n - 1 = m := Dwell.counting.inj hm; omega
            dwellRuns := fun _ => h.dwellRuns (by rw [hd]; exact nofun) }
    all_goals exact h
  · exact h

/-- A target of the same entry takes the place of the target (R155). -/
theorem SeqInv.retarget {s : State} (h : SeqInv s) {t t' : Target} (ht : s.seq.target = some t) (he : t'.entry = t.entry)
    (hw : t'.wait ≤ Config.maxWait) : SeqInv (s.setSeq { s.seq with target := some t' }) :=
  { h with
    targetRuns := fun _ _ => h.targetRuns t ht
    dwellRuns := fun hd => by
      have none := (h.dwellRuns hd).2
      rw [ht] at none
      cases none
    targetEntry := fun x hx => by
      obtain rfl := Option.some.inj hx
      exact ⟨he ▸ (h.targetEntry t ht).1, hw⟩ }

theorem SeqInv.markReady {s : State} (h : SeqInv s) {t : Target} (ht : s.seq.target = some t) : SeqInv (markReady t s) :=
  h.retarget ht rfl (h.targetEntry t ht).2

theorem SeqInv.lateTarget {s : State} (h : SeqInv s) {t : Target} (ht : s.seq.target = some t) :
    SeqInv (lateTarget t s) := by
  unfold Machine.lateTarget
  split
  · exact (h.raise _).retarget ht rfl le_rfl
  · exact h.retarget ht rfl le_rfl

theorem SeqInv.testTarget {s : State} (h : SeqInv s) : SeqInv (testTarget s) := by
  unfold Machine.testTarget
  split
  · exact h
  · next t ht =>
    split_ifs with _ _ hw
    · exact h
    · exact h.markReady ht
    · exact h.lateTarget ht
    · exact h.retarget ht rfl (Nat.le_of_not_le hw)

theorem SeqInv.testTime {s : State} (h : SeqInv s) : SeqInv (testTime s) := by
  unfold Machine.testTime
  split
  · exact h.startTrigger ..
  · exact h

/-- An insertion into the show schedule leaves the sequencer alone (R83). -/
@[simp] theorem insertEntry_seq (x : ShowEntry) (s : State) : (insertEntry x s).2.seq = s.seq := by
  unfold insertEntry; split <;> rfl

theorem SeqInv.insertEntry {s : State} (h : SeqInv s) (x : ShowEntry) : SeqInv (insertEntry x s).2 :=
  h.of_seq (insertEntry_seq x s)

/-- The target becomes the placed entry (R156). -/
theorem SeqInv.place {s : State} (h : SeqInv s) {t : Target} (ht : s.seq.target = some t) (p : PageId) :
    SeqInv (s.setSeq { s.seq with target := none, placed := some { entry := t.entry, page := p } }) :=
  { h with
    targetRuns := fun _ hx => nomatch hx
    dwellRuns := fun hd => ⟨(h.dwellRuns hd).1, rfl⟩
    targetEntry := fun _ hx => nomatch hx
    placedEntry := fun x hx => by obtain rfl := Option.some.inj hx; exact (h.targetEntry t ht).1 }

theorem SeqInv.insertTarget {s : State} (h : SeqInv s) : SeqInv (insertTarget s) := by
  unfold Machine.insertTarget
  split
  · exact h
  · next t ht =>
    split
    · split
      · exact h
      · next e _ =>
        have inserted := h.insertEntry (slideShow e)
        have same := insertEntry_seq (slideShow e) s
        split
        · next s1 hs => rw [hs] at inserted same; exact inserted.place (by rw [same]; exact ht) e.page
        · next s1 hs => rw [hs] at inserted; exact inserted
    · exact h

theorem SeqInv.sequencerEnd {s : State} (h : SeqInv s) : SeqInv (sequencerEnd s) :=
  h.countDwell.testTarget.testTime.insertTarget

/-! ### Parts of the frame end -/

theorem SeqInv.dwellDone {s : State} (h : SeqInv s) : SeqInv (dwellDone s) := by
  unfold Machine.dwellDone
  split
  · next hr =>
    split
    · split
      · exact h.expireDwell (isRunning_of_counts hr)
      · exact h
    all_goals exact h
  · exact h

theorem SeqInv.readyDone {s : State} (h : SeqInv s) : SeqInv (readyDone s) := by
  unfold Machine.readyDone
  split
  · next t ht =>
    split
    · exact h.markReady ht
    · exact h
  · exact h

theorem SeqInv.lateDone {s : State} (h : SeqInv s) : SeqInv (lateDone s) := by
  unfold Machine.lateDone
  split
  · next t ht =>
    split
    · exact h.lateTarget ht
    · exact h
  · exact h

/-! ### Notices of the composition engine (R157, R158) -/

theorem SeqInv.dwellOnShow {s : State} (h : SeqInv s) {i n : Nat} {p : PageId}
    (hd : s.seq.dwellOnShow i p = .counting n) : 1 ≤ n ∧ n ≤ 65535 := by
  unfold Sequencer.dwellOnShow at hd
  split at hd
  · exact dwellFor_counting (h.durationOf_le i) hd
  · cases hd

theorem SeqInv.slideShown {s : State} (h : SeqInv s) (p : PageId) : SeqInv (slideShown p s) := by
  unfold Machine.slideShown
  split
  · exact { h with }
  · next x hx =>
    have shown : SeqInv (s.setSeq { s.seq with
        shown := some x.entry, placed := none, slidePage := some p
        dwell := if s.seq.run.isRunning ∧ s.seq.target = none then s.seq.dwellOnShow x.entry p else s.seq.dwell }) :=
      { h with
        counting := fun n hn => by
          dsimp only [State.setSeq_seq] at hn
          split at hn
          · exact h.dwellOnShow hn
          · exact h.counting n hn
        dwellRuns := fun hd => by
          dsimp only [State.setSeq_seq] at hd
          split at hd
          · assumption
          · exact h.dwellRuns hd
        shownEntry := fun i hi => by obtain rfl := Option.some.inj hi; exact h.placedEntry x hx
        placedEntry := fun _ hy => nomatch hy }
    dsimp only
    split
    · exact shown.raise _
    · exact shown

theorem SeqInv.slideComplete {s : State} (h : SeqInv s) : SeqInv (slideComplete s) := by
  unfold Machine.slideComplete
  split
  · next hd =>
    exact
      { h with
        counting := fun n hn => dwellFor_counting (h.durationOf_le _) hn
        dwellRuns := fun _ => h.dwellRuns (by rw [hd]; exact nofun) }
  all_goals exact h

theorem SeqInv.slideHidden {s : State} (h : SeqInv s) : SeqInv (slideHidden s) := { h with }

theorem SeqInv.slideNotApplied {s : State} (h : SeqInv s) : SeqInv (slideNotApplied s) := by
  unfold Machine.slideNotApplied
  split
  · exact h
  · next x _ =>
    have skipped := h.raise (.entrySkipped x.entry x.page)
    have cleared : SeqInv ((s.raise (.entrySkipped x.entry x.page)).setSeq { s.seq with placed := none }) :=
      { skipped with placedEntry := fun _ hy => nomatch hy }
    dsimp only
    split
    · next hr => exact cleared.advanceFrom hr.1 _
    · exact cleared

/-! ### Slide List, Slide Control and Set Open (R147, R149, R163) -/

theorem SeqInv.takeSlideList {s : State} (h : SeqInv s) (b : List Byte) : SeqInv (takeSlideList b s) := by
  unfold Machine.takeSlideList
  split
  · exact h.raise _
  · next g hg =>
    split
    · exact h.raise _
    · next hr =>
      obtain ⟨noTarget, noDwell⟩ := h.idle (Bool.eq_false_iff.mpr hr)
      obtain ⟨⟨-, hcount, ⟨-, -, hdrain, -⟩, -, -⟩, rfl⟩ := readSlideList_some hg
      exact
        { h with
          list := (slidesOf_length b).trans_le hcount
          entries := slidesOf_ranges b
          targetRuns := fun t ht => nomatch noTarget.symm.trans ht
          dwellRuns := fun hd => absurd noDwell hd
          targetEntry := fun t ht => nomatch noTarget.symm.trans ht
          shownEntry := fun _ hi => nomatch hi
          placedEntry := fun _ hx => nomatch hx
          drain := ⟨h.drain.1, hdrain⟩ }

/-- ARM and DISARM outside the running states (R149). -/
theorem SeqInv.setRun_idle {s : State} (h : SeqInv s) (hr : s.seq.run.isRunning = false) (r : RunState) :
    SeqInv (s.setRun r) := by
  obtain ⟨noTarget, noDwell⟩ := h.idle hr
  exact
    { h with
      targetRuns := fun t ht => nomatch noTarget.symm.trans ht
      dwellRuns := fun hd => absurd noDwell hd }

theorem SeqInv.slideConfigure {s : State} (h : SeqInv s) {c : SlideConfig} (hc : c.drainCount ≤ 63) :
    SeqInv (slideConfigure c s) := by
  have configured : SeqInv (s.setSeq { s.seq with config := c }) := { h with drain := ⟨h.drain.1, hc⟩ }
  unfold Machine.slideConfigure
  cases s.seq.run with
  | idle | ended => exact configured
  | armed | running | held | draining => exact h.raise _

theorem SeqInv.takeSlideControl {s : State} (h : SeqInv s) (b : List Byte) : SeqInv (takeSlideControl b s) := by
  unfold Machine.takeSlideControl
  split
  case h_1 => exact h.raise _
  case h_2 c hc => exact h.slideConfigure (readSlideControl_drainCount hc)
  case h_3 =>
    unfold slideArm
    split
    · exact h.raise _
    · next hr => exact h.setRun_idle (Bool.eq_false_iff.mpr hr) _
  case h_4 =>
    unfold slideDisarm
    split
    · exact h.endRun ..
    · next hr => exact h.setRun_idle (Bool.eq_false_iff.mpr hr) _
  case h_5 => exact h.startTrigger ..
  case h_6 => exact h.stopTrigger
  all_goals exact h.slideKey _

/-- A sequencer as a reset leaves it, but for a configuration and a flags copy (R145, R163). -/
theorem seqInv_of_cleared {s : State} (hd : s.seq.config.drainCount ≤ 63)
    (h : s.seq = { Sequencer.reset with config := s.seq.config, flagsCopy := s.seq.flagsCopy }) : SeqInv s := by
  have cleared : SeqInv (State.reset.setSeq { Sequencer.reset with config := s.seq.config, flagsCopy := s.seq.flagsCopy }) :=
    { reset_seqInv with drain := ⟨Nat.zero_le 63, hd⟩ }
  exact cleared.of_seq h

end Sys2Proof.Machine
end

section
/-! PROOFS. Every step keeps the laws of the sequencer (R145, R146, R148): the navigation unit and the composition engine
reach it through its triggers, keys and notices alone. -/

namespace Sys2Proof.Machine

open Sys2Proof

theorem SeqInv.setSkew {s : State} (h : SeqInv s) (x : StartSkew) : SeqInv (s.setSkew x) := h.of_seq rfl

/-! ### The navigation unit (chapter 7) -/

theorem SeqInv.writeFlags {s : State} (h : SeqInv s) (new : Half) : SeqInv (writeFlags new s) := by
  unfold Machine.writeFlags
  split
  · exact h
  · refine SeqInv.flagsNotice ?_ new
    exact h.of_seq rfl

theorem SeqInv.insertWith {s : State} (h : SeqInv s) (c : NavCtx) (e : ShowEntry) (l : List (PageId × Option Nat)) :
    SeqInv (insertWith c e l s) := by
  have inserted := h.insertEntry e
  unfold Machine.insertWith
  split <;> next s1 hs => rw [hs] at inserted; exact inserted.of_seq rfl

theorem SeqInv.goBack {s : State} (h : SeqInv s) (c : NavCtx) (t : Transition) : SeqInv (goBack c t s) := by
  unfold Machine.goBack
  dsimp only
  split
  · exact h.insertWith ..
  · cases c with
    | menu => exact h.raise _
    | popup => exact h.insertEntry _

/-- An action reaches the sequencer as a trigger of source BUTTON or as a change of flags (R141, R148). -/
theorem SeqInv.performAction {s : State} (h : SeqInv s) (c : NavCtx) (a : Action) : SeqInv (performAction c a s) := by
  cases a with
  | none => exact h
  | goto q t => exact h.insertWith ..
  | replace q t => exact h.insertEntry _
  | back t => exact h.goBack c t
  | close t => exact h.insertWith ..
  | slidesStart e =>
    unfold Machine.performAction buttonStart
    dsimp only
    split
    · exact h.startTrigger ..
    · exact h
  | slidesStop =>
    unfold Machine.performAction buttonStop
    dsimp only
    split
    · exact h.stopTrigger
    · exact h
  | setFlags set clear =>
    unfold Machine.performAction setFlagsAction
    dsimp only
    split
    · exact h
    · exact (h.raise _).writeFlags _

theorem SeqInv.finishActivation {s : State} (h : SeqInv s) (c : NavCtx) (i : Nat) : SeqInv (finishActivation c i s) := by
  have execute {s : State} (h : SeqInv s) : SeqInv (executeAction c i s) := by
    unfold executeAction
    split
    · exact h
    · next b _ =>
      cases b.notify with
      | none => exact h.performAction c b.action
      | some code => exact (h.raise _).performAction c b.action
  exact execute (h.of_seq rfl)

theorem SeqInv.activate {s : State} (h : SeqInv s) (c : NavCtx) (i : Nat) : SeqInv (activate c i s) := by
  unfold Machine.activate
  dsimp only
  split
  · refine SeqInv.finishActivation ?_ c i
    exact h.of_seq rfl
  · exact h.of_seq rfl

theorem SeqInv.countActivation {s : State} (h : SeqInv s) (c : NavCtx) : SeqInv (countActivation c s) := by
  unfold Machine.countActivation
  dsimp only
  split
  · exact h
  · split
    · exact h.finishActivation ..
    · exact h.of_seq rfl

theorem SeqInv.selectIn {s : State} (h : SeqInv s) (c : NavCtx) (j : Nat) : SeqInv (selectIn c j s) := h.of_seq rfl

theorem SeqInv.contextKey {s : State} (h : SeqInv s) (c : NavCtx) (e : KeyEntry) : SeqInv (contextKey c e s) := by
  have arrow (d : Direction) : SeqInv (arrowKey c d s) := by
    unfold arrowKey
    dsimp only
    split
    · exact h
    · next j _ =>
      split
      · exact (h.selectIn c j).activate c j
      · exact h.selectIn c j
  unfold Machine.contextKey
  split
  · exact h
  · cases e.key with
    | up => exact arrow .up
    | down => exact arrow .down
    | left => exact arrow .left
    | right => exact arrow .right
    | back => exact h.goBack c .cut
    | popup => exact h
    | ok =>
      unfold okKey
      dsimp only
      split
      · exact h.activate ..
      · exact h
    | number =>
      unfold numberKey
      dsimp only
      split
      · next j _ => exact (h.selectIn c j).activate c j
      · exact h

/-- A key in SLIDE focus is a key of the sequencer (R136, R160). -/
theorem SeqInv.slideFocusKey {s : State} (h : SeqInv s) (k : Key) : SeqInv (slideFocusKey k s) := by
  cases k with
  | right => exact h.slideKey .next
  | left => exact h.slideKey .prev
  | ok => exact h.slideKey .pauseResume
  | up | down | back | number | popup => exact h

theorem SeqInv.popupKey {s : State} (h : SeqInv s) : SeqInv (popupKey s) := by
  unfold Machine.popupKey
  split
  · exact h.insertWith ..
  · split
    · exact h.insertEntry _
    · exact h

theorem SeqInv.takeOneKey {s : State} (h : SeqInv s) : SeqInv (takeOneKey s) := by
  unfold Machine.takeOneKey
  split
  · exact h
  · next e rest _ =>
    have taken : SeqInv (s.setNav { s.nav with keys := rest }) := h.of_seq rfl
    unfold handleKey
    split
    · exact taken.popupKey
    · split
      · exact taken.contextKey ..
      · exact taken.slideFocusKey _

theorem SeqInv.navEnd {s : State} (h : SeqInv s) : SeqInv (navEnd s) := by
  have evaluated : SeqInv (evaluateConditions (clearFresh s)) := by
    unfold evaluateConditions
    dsimp only
    split <;> exact h.of_seq rfl
  exact ((evaluated.countActivation .menu).countActivation .popup).takeOneKey.of_seq rfl

theorem SeqInv.activationDone {s : State} (h : SeqInv s) (c : NavCtx) : SeqInv (activationDone c s) := by
  unfold Machine.activationDone
  split
  · split
    · exact h.finishActivation ..
    · exact h
  · exact h

theorem SeqInv.playheadDone {s : State} (h : SeqInv s) (c : NavCtx) (i : Nat) : SeqInv (playheadDone c i s) := by
  unfold Machine.playheadDone
  dsimp only
  split
  · exact h.of_seq rfl
  · exact h

/-! ### The composition engine (chapter 5) -/

theorem SeqInv.noticeShown {s : State} (h : SeqInv s) (c : Ctx) (p : Option PageId) (restore : Option Nat) :
    SeqInv (noticeShown c p restore s) := by
  cases c with
  | slide => cases p with
    | none => exact h.slideHidden
    | some p => exact h.slideShown p
  | menu | popup => cases p <;> exact h.of_seq rfl

theorem SeqInv.noticeNotApplied {s : State} (h : SeqInv s) (e : ShowEntry) : SeqInv (noticeNotApplied e s) := by
  unfold Machine.noticeNotApplied
  split
  · exact h.slideNotApplied
  · exact h

theorem SeqInv.endTransition {s : State} (h : SeqInv s) (c : Ctx) : SeqInv (endTransition c s) := by
  unfold Machine.endTransition
  split
  · cases c with
    | slide => exact SeqInv.slideComplete (h.of_seq rfl)
    | menu | popup => exact h.of_seq rfl
  all_goals exact h

theorem SeqInv.stepContext {s : State} (h : SeqInv s) (c : Ctx) : SeqInv (stepContext c s) := by
  unfold Machine.stepContext
  split
  · split
    · exact h.endTransition c
    · exact h.of_seq rfl
  all_goals exact h

theorem SeqInv.transitionDone {s : State} (h : SeqInv s) (c : Ctx) : SeqInv (transitionDone c s) := by
  unfold Machine.transitionDone
  split
  · split
    · exact h.endTransition c
    · exact h
  all_goals exact h

/-- A fold of steps that keep the laws keeps them. -/
theorem SeqInv.foldl {α : Type} {f : State → α → State} (hf : ∀ {s} x, SeqInv s → SeqInv (f s x)) (l : List α) {s : State}
    (h : SeqInv s) : SeqInv (l.foldl f s) := List.foldlRecOn l f h fun _ h x _ => hf x h

theorem navRedefined_seq (p : PageId) (s : State) : (navRedefined p s).seq = s.seq := by
  have one (c s) : (navRedefinedIn c p s).seq = s.seq := by unfold navRedefinedIn; dsimp only; split <;> rfl
  rw [navRedefined, one, one]

theorem SeqInv.applyAllPending {s : State} (h : SeqInv s) : SeqInv (applyAllPending s) := by
  refine SeqInv.foldl (fun {s} p h => ?_) _ h
  unfold applyPending
  split
  · exact h
  · dsimp only
    split_ifs
    · exact h.of_seq (navRedefined_seq p _)
    · exact h.of_seq rfl
    · exact h

theorem SeqInv.resolveSchedule {s : State} (h : SeqInv s) : SeqInv (resolveSchedule s) :=
  SeqInv.foldl (fun e h => (h.raise _).noticeNotApplied e) _ (h.of_seq rfl)

theorem SeqInv.applyWinnerOf {s : State} (h : SeqInv s) (w : Option (Nat × ShowEntry)) : SeqInv (applyWinnerOf w s) := by
  have accept (e : ShowEntry) : SeqInv (acceptWinner e s) := by
    have reported (s : State) : (reportShown e s).seq = s.seq := by unfold reportShown; dsimp only; split <;> rfl
    refine SeqInv.noticeShown (SeqInv.of_seq ?_ (reported _)) ..
    exact (h.endTransition e.ctx).of_seq rfl
  cases w with
  | none => exact h
  | some x =>
    unfold Machine.applyWinnerOf applyWinner
    dsimp only
    split
    · exact (h.raise _).noticeNotApplied x.2
    · exact (h.raise _).noticeNotApplied x.2
    · exact accept x.2

theorem SeqInv.engineStart {s : State} (h : SeqInv s) : SeqInv (engineStart s) := by
  have moved : SeqInv (moveClock s) := h.of_seq rfl
  have scrolled : SeqInv (applyScrolls (Machine.applyAllPending (moveClock s))) :=
    moved.applyAllPending.of_seq (State.setEngine_seq _ _)
  have stepped := ((scrolled.stepContext .slide).stepContext .menu).stepContext .popup
  have run {s : State} (h : SeqInv s) : SeqInv (runSchedule s) :=
    ((h.resolveSchedule.applyWinnerOf _).applyWinnerOf _).applyWinnerOf _
  have recomputed {s : State} (h : SeqInv s) : SeqInv (recomputeLive s) := h.of_seq (State.setEngine_seq _ _)
  exact (recomputed (run stepped)).setSkew _

/-! ### The segments (R12) -/

/-- Only Set Open, Slide List, Flags, Slide Control and Restart reach the sequencer (R12). -/
theorem takeSegment_seq {g : Segment} (hk : g.kind ∉ [Kind.setOpen, .slideList, .flags, .slideControl, .restart])
    (s : State) : (takeSegment g s).seq = s.seq := by
  obtain ⟨k, b⟩ := g
  cases k with
  | objectData =>
    have held (k) : (endHeldLoad k s).seq = s.seq := by unfold endHeldLoad; split <;> rfl
    simp only [takeSegment, takeFragment]
    split
    · rfl
    · unfold requestLoad; split <;> simp [held]
    · unfold joinLoad
      dsimp only
      split
      · split <;> rfl
      · split <;> rfl
      all_goals rfl
  | objectDrop =>
    simp only [takeSegment, takeDrop, dropObject]
    split
    · rfl
    · split <;> rfl
  | palette =>
    simp only [takeSegment, takePalette, applyPalette]
    split
    · rfl
    · split
      · rfl
      all_goals split <;> rfl
  | page => simp only [takeSegment, takePage]; split <;> rfl
  | buttons => simp only [takeSegment, takeButtons]; split <;> rfl
  | animations => simp only [takeSegment, takeAnimations]; split <;> rfl
  | scroll =>
    simp only [takeSegment, takeScroll]
    split
    · rfl
    · split_ifs <;> rfl
  | showPage =>
    simp only [takeSegment, takeShow]
    split
    · rfl
    · split
      · rfl
      · exact insertEntry_seq ..
  | key =>
    simp only [takeSegment, takeKey, queueKey]
    split
    · rfl
    · split_ifs <;> rfl
  | clock => simp only [takeSegment, takeClock]; split <;> rfl
  | output => simp only [takeSegment, takeOutput]; split <;> rfl
  | statusRequest => simp only [takeSegment, takeStatus]; split <;> rfl
  | attentionMask => simp only [takeSegment, takeMask]; split <;> rfl
  | _ => exact absurd (by simp) hk

theorem completeFragment_seq (l : Load) (pos : Position) (code : List Byte) (s : State) :
    (completeFragment l pos code s).seq = s.seq := by
  unfold completeFragment
  split
  · rfl
  · split <;> rfl

theorem resetBlocks_seqInv (s : State) : SeqInv (resetBlocks s) := reset_seqInv.of_seq rfl

theorem SeqInv.takeSegment {s : State} (h : SeqInv s) (g : Segment) : SeqInv (takeSegment g s) := by
  by_cases hk : g.kind ∈ [Kind.setOpen, .slideList, .flags, .slideControl, .restart]
  · obtain ⟨k, b⟩ := g
    simp only [List.mem_cons, List.not_mem_nil, or_false] at hk
    obtain rfl | rfl | rfl | rfl | rfl := hk
    · simp only [Machine.takeSegment, takeSetOpen]
      split
      · exact h.raise _
      · exact seqInv_of_cleared h.drain.2 rfl
    · exact h.takeSlideList b
    · simp only [Machine.takeSegment, takeFlags]
      split
      · exact h.raise _
      · exact h.writeFlags _
    · exact h.takeSlideControl b
    · simp only [Machine.takeSegment, takeRestart]
      split
      · exact (resetBlocks_seqInv s).of_seq rfl
      · exact h.raise _
  · exact h.of_seq (takeSegment_seq hk s)

/-! ### Every command -/

/-- No byte and no segment breaks the laws. -/
theorem seqInv_routed : Routed SeqInv where
  port _ _ h := h.of_seq rfl
  raise b _ h := h.raise b
  segment g _ h := h.takeSegment g
  fragment l pos code s h := h.of_seq (completeFragment_seq l pos code s)

theorem unlessHeld_seqInv_of_seq {f : State → State} {s : State} (hf : (f s).seq = s.seq) (h : SeqInv s) :
    SeqInv (unlessHeld f s) := unlessHeld_keeps (fun h => h.of_seq hf) h

theorem paletteStart_seq (s : State) : (paletteStart s).seq = s.seq := by
  unfold paletteStart testPatch
  split
  · split <;> rfl
  all_goals rfl

theorem mixLine_seq (l : List Pixel) (s : State) : (mixLine l s).seq = s.seq := by
  unfold mixLine
  split
  · rfl
  · split <;> rfl

theorem mixerEnd_seq (s : State) : (mixerEnd s).seq = s.seq := by
  have overload (s) : (reportOverload s).seq = s.seq := by unfold reportOverload; split <;> rfl
  have raster (old s) : (reportRaster old s).seq = s.seq := by
    unfold reportRaster
    split
    · rfl
    · split <;> rfl
  unfold mixerEnd
  split
  · rfl
  · simp [overload, raster]

/-- Every command keeps the laws of the sequencer. -/
theorem exec_seqInv {s t : State} (h : SeqInv s) (c : Instr) (he : exec c s = .next t) : SeqInv t := by
  cases hg : segmentOf c with
  | some g =>
    obtain rfl := Host.Outcome.next.inj ((exec_segmentOf hg s).symm.trans he)
    exact unlessHeld_keeps (seqInv_routed.present g) h
  | none =>
    cases c with
    | segmentByte b => cases he; exact unlessHeld_keeps (seqInv_routed.receiveByte b) h
    | fragmentComplete => cases he; exact unlessHeld_keeps seqInv_routed.fragmentDone h
    | engineFrameStart => cases he; exact unlessHeld_keeps SeqInv.engineStart h
    | transitionEnd x => cases he; exact unlessHeld_keeps (SeqInv.transitionDone · x) h
    | storeFrameStart => cases he; exact unlessHeld_seqInv_of_seq (State.setStore_seq s _) h
    | paletteFrameStart => cases he; exact unlessHeld_seqInv_of_seq (paletteStart_seq s) h
    | mixerFrameStart => cases he; exact unlessHeld_seqInv_of_seq rfl h
    | line l =>
      cases he
      split
      · exact h.of_seq rfl
      · exact h.of_seq (mixLine_seq l s)
    | mixerFrameEnd => cases he; exact unlessHeld_seqInv_of_seq (mixerEnd_seq s) h
    | storeFrameEnd => cases he; exact unlessHeld_keeps (fun h => (h.of_seq (State.setStore_seq s _)).setSkew .level) h
    | navFrameEnd => cases he; exact unlessHeld_keeps (fun h => h.navEnd.setSkew .level) h
    | activationExpiry x => cases he; exact unlessHeld_keeps (SeqInv.activationDone · x) h
    | playheadStep x i => cases he; exact unlessHeld_keeps (SeqInv.playheadDone · x i) h
    | sequencerFrameEnd => cases he; exact unlessHeld_keeps (fun h => h.sequencerEnd.setSkew .level) h
    | dwellExpiry => cases he; exact unlessHeld_keeps SeqInv.dwellDone h
    | slideReady => cases he; exact unlessHeld_keeps SeqInv.readyDone h
    | lateSlide => cases he; exact unlessHeld_keeps SeqInv.lateDone h
    | timeTrigger => cases he; exact unlessHeld_keeps SeqInv.testTime h
    | readStrobe => cases he; exact h.of_seq (by split <;> rfl)
    | resetNAsserted => cases he; exact (resetBlocks_seqInv s).of_seq rfl
    | resetNReleased =>
      cases he
      unfold releaseReset
      split
      · exact (resetBlocks_seqInv s).of_seq rfl
      · exact h
    | _ => exact nomatch hg

/-- Settles O56: every command keeps the laws, whatever waits behind it. -/
theorem sequencerLawsKept : Obligations.SequencerLawsKept := by
  intro s t h hs
  unfold step at hs
  split at hs
  · cases hs; exact h
  · next c rest _ =>
    have waiting : SeqInv { s with pending := rest } := h.of_seq rfl
    exact exec_seqInv waiting c hs

end Sys2Proof.Machine
end

section
/-! PROOFS. Slide List and Slide Control as they arrive: the list and the configuration taken, and the operations by the run
state (R147, R149, R152, R160). -/

namespace Sys2Proof.Machine

open Sys2Proof

/-- The running states (R145). -/
theorem isRunning_iff (r : RunState) : r.isRunning = true ↔ r = .running ∨ r = .held ∨ r = .draining := by
  cases r <;> decide

/-! ### Slide List (R147) -/

/-- A Slide List body that passes its checks is taken outside the running states and refused in them. -/
theorem takeSlideList_fits {b : List Byte} (hf : SlideListFits b) (s : State) :
    takeSlideList b s =
      if s.seq.run = .running ∨ s.seq.run = .held ∨ s.seq.run = .draining then s.raise .slideBusyList
      else s.setSeq { s.seq with
        list := slidesOf b, config := configAt b 1, shown := none, placed := none
        run := if num8 b 17 = 1 then .armed else .idle } := by
  simp only [takeSlideList, readSlideList_eq hf, isRunning_iff, loadList, decide_eq_true_eq]

/-- Settles O50. -/
theorem slideListTaken : Obligations.SlideListTaken := by
  intro b s hf ht
  rw [exec_content_free (segmentOf_slideList b) rfl nofun ht]
  exact congrArg _ (takeSlideList_fits hf _)

/-! ### Slide Control (R149, R152, R160) -/

/-- A Slide Control of an operation without operands, as it arrives (R13). -/
theorem exec_slideOperation {c : Instr} {op : Byte} {s : State} (h : segmentOf c = some ⟨.slideControl, [op]⟩)
    (ha : Accepts s 1) : exec c s = .next (takeSlideControl [op] (visited s 1)) := exec_express h rfl ha

theorem takeSlideControl_configure {r : List Byte} (hlen : r.length = 16) (hf : ConfigFits r 0) (s : State) :
    takeSlideControl (SlideOp.configure.code :: r) s = slideConfigure (configAt r 0) s := by
  rw [takeSlideControl, readSlideControl_configure hlen hf]

/-- CONFIGURE by the run state (R149). -/
theorem slideConfigure_eq (c : SlideConfig) (s : State) :
    slideConfigure c s =
      if s.seq.run = .idle ∨ s.seq.run = .ended then s.setSeq { s.seq with config := c }
      else s.raise (.slideBusyControl .configure) := by
  unfold slideConfigure
  cases s.seq.run <;> rfl

/-- A run ends: the sequencer and the report unit (R162). -/
theorem endRun_eq (why : EndReason) (final : RunState) (s : State) :
    endRun why final s = { s with
      seq := { s.seq with run := final, target := none, dwell := .absent, drain := 0 }
      report := s.report.enqueue s.engine.fc (.ended why s.seq.shown) } := rfl

/-- A stop trigger by the run state (R152). -/
theorem stopTrigger_eq (s : State) :
    stopTrigger s =
      if s.seq.run = .running ∨ s.seq.run = .held then
        if s.seq.config.drainCount = 0 then endRun .stop .ended s
        else s.setSeq { s.seq with run := .draining, drain := s.seq.config.drainCount }
      else s := by
  unfold stopTrigger
  cases s.seq.run <;> rfl

/-- PAUSE by the run state (R160). -/
theorem slideKey_pause (s : State) : slideKey .pause s = if s.seq.run = .running then s.setRun .held else s := by
  unfold slideKey
  cases s.seq.run <;> rfl

/-- RESUME by the run state (R160). -/
theorem slideKey_resume (s : State) : slideKey .resume s = if s.seq.run = .held then s.setRun .running else s := by
  unfold slideKey
  cases s.seq.run <;> rfl

/-- Settles O51, operation by operation. -/
theorem slideControlByRunState : Obligations.SlideControlByRunState := by
  refine ⟨fun s ha => ⟨fun r hlen hf hc => ?_, ?_, ?_⟩, fun s ha => ⟨?_, ?_, ?_⟩⟩
  · have hbody : (SlideOp.configure.code :: r).length = 17 := congrArg Nat.succ hlen
    rw [exec_express (segmentOf_configure r) rfl (hbody.symm ▸ hc)]
    change Host.Outcome.next (takeSlideControl (SlideOp.configure.code :: r) (visited s _)) = _
    rw [takeSlideControl_configure hlen hf, slideConfigure_eq, hbody]
    rfl
  · rw [exec_slideOperation (segmentOf_arm []) ha]
    refine congrArg Host.Outcome.next ?_
    change slideArm (visited s 1) = _
    simp only [slideArm, isRunning_iff]
    rfl
  · rw [exec_slideOperation (segmentOf_disarm []) ha]
    refine congrArg Host.Outcome.next ?_
    change slideDisarm (visited s 1) = _
    simp only [slideDisarm, isRunning_iff, endRun_eq]
    rfl
  · rw [exec_slideOperation (segmentOf_slideStop []) ha]
    exact congrArg Host.Outcome.next (stopTrigger_eq _)
  · rw [exec_slideOperation (segmentOf_slidePause []) ha]
    exact congrArg Host.Outcome.next (slideKey_pause _)
  · rw [exec_slideOperation (segmentOf_slideResume []) ha]
    exact congrArg Host.Outcome.next (slideKey_resume _)

end Sys2Proof.Machine
end

section
/-! PROOFS. START, NEXT and PREV as they arrive: the scans of the rules by the entries that they meet (R151, R153, R154,
R160). -/

namespace Sys2Proof.Machine

open Sys2Proof

/-! ### Scans (R146, R153) -/

/-- A scan passes over entry j without a report: its condition is false, or there is no such entry. -/
def Sequencer.PassesOver (q : Sequencer) (j : Nat) : Prop :=
  ∀ x, q.list[j]? = some x → x.cond.holds q.flagsCopy = false

/-- Entry i of the list is eligible (R146). -/
structure Sequencer.Eligible (defined : PageId → Bool) (q : Sequencer) (i : Nat) (e : SlideEntry) : Prop where
  entry : q.list[i]? = some e
  holds : e.cond.holds q.flagsCopy = true
  page : defined e.page = true

section Scan

variable {defined : PageId → Bool} {q : Sequencer}

theorem Sequencer.PassesOver.wanted {j : Nat} (h : q.PassesOver j) :
    q.list[j]?.filter (fun e => e.cond.holds q.flagsCopy) = none := by
  refine Option.filter_eq_none_iff.mpr fun x hx => ?_
  rw [h x hx]; exact nofun

theorem Sequencer.Eligible.wanted {i : Nat} {e : SlideEntry} (h : q.Eligible defined i e) :
    q.list[i]?.filter (fun e => e.cond.holds q.flagsCopy) = some e :=
  Option.filter_eq_some_iff.mpr ⟨h.entry, h.holds⟩

/-- A scan goes on behind an entry that it passes over. -/
theorem scanByRule_passesOver {j : Nat} (h : q.PassesOver j) (fc : FrameCount) (l : List Nat) (r : ReportUnit) :
    scanByRule defined fc q (j :: l) r = scanByRule defined fc q l r := by
  simp only [scanByRule, List.find?_cons, List.takeWhile_cons, h.wanted, Option.any_none, Bool.not_false, ↓reduceIte,
    List.foldl_cons]

/-- A scan stops at an eligible entry. -/
theorem scanByRule_eligible {i : Nat} {e : SlideEntry} (h : q.Eligible defined i e) (fc : FrameCount) (l : List Nat)
    (r : ReportUnit) : scanByRule defined fc q (i :: l) r = (some i, r) := by
  simp only [scanByRule, List.find?_cons, List.takeWhile_cons, h.wanted, Option.any_some, h.page, Bool.not_true,
    Bool.false_eq_true, ↓reduceIte, List.foldl_nil]

/-- A scan goes on behind entries that it passes over. -/
theorem scanByRule_append {before : List Nat} (h : ∀ j ∈ before, q.PassesOver j) (fc : FrameCount) (l : List Nat)
    (r : ReportUnit) : scanByRule defined fc q (before ++ l) r = scanByRule defined fc q l r := by
  induction before with
  | nil => rfl
  | cons j before ih =>
    rw [List.cons_append, scanByRule_passesOver (h j (.head _)), ih fun k hk => h k (.tail _ hk)]

/-- A scan of entries that it passes over finds none. -/
theorem scanByRule_none {order : List Nat} (h : ∀ j ∈ order, q.PassesOver j) (fc : FrameCount) (r : ReportUnit) :
    scanByRule defined fc q order r = (none, r) := by
  rw [← List.append_nil order, scanByRule_append h]; rfl

end Scan

/-! ### Orders of examination -/

/-- The entries from `m` on begin with `m`. -/
theorem filter_from_eq_cons {m n : Nat} (h : m < n) :
    (List.range n).filter (m ≤ ·) = m :: (List.range n).drop (m + 1) := by
  rw [← drop_range, List.drop_eq_getElem_cons (by rwa [List.length_range]), List.getElem_range]

/-- All entries are those before `i`, then `i`, then the others. -/
theorem filter_from_zero {i n : Nat} (h : i < n) :
    (List.range n).filter (0 ≤ ·) = List.range i ++ i :: (List.range n).drop (i + 1) := by
  rw [← drop_range, List.drop_zero, ← filter_from_eq_cons h, ← drop_range]
  conv_lhs => rw [← List.take_append_drop i (List.range n), List.take_range, Nat.min_eq_left h.le]

/-- The entries before `m + 1`, descending, begin with `m`. -/
theorem filter_before_reverse {m n : Nat} (h : m < n) :
    ((List.range n).filter (· < m + 1)).reverse = m :: (List.range m).reverse := by
  rw [← take_range, List.take_range, Nat.min_eq_left h, List.range_succ, List.reverse_append]; rfl

/-! ### Starts, advances and backward steps by the entries that they meet -/

section Rules

variable {defined : PageId → Bool} {q : Sequencer}

/-- A start scan from entry 0 that finds entry i (R151, R153). -/
theorem startByRule_eligible {i : Nat} {e : SlideEntry} (hrun : q.run = .armed ∨ (q.run = .ended ∧ q.config.endMode ≠ .once))
    (h : q.Eligible defined i e) (before : ∀ j < i, q.PassesOver j) (fc : FrameCount) (source : StartedBy)
    (r : ReportUnit) :
    startByRule defined fc source 0 q r =
      ({ q with
         run := .running, target := some { entry := i, ready := false, wait := 0 }, dwell := .absent, drain := 0 },
        r.enqueue fc (.started i source)) := by
  have hi : i < q.list.length := (List.getElem?_eq_some_iff.mp h.entry).1
  have hscan (l : List Nat) :
      scanByRule defined fc q ((List.range q.list.length).filter (0 ≤ ·) ++ l) r = (some i, r) := by
    rw [filter_from_zero hi, List.append_assoc, List.cons_append,
      scanByRule_append (fun j hj => before j (List.mem_range.mp hj)), scanByRule_eligible h]
  rw [startByRule, if_pos hrun]
  simp only [ite_self, if_neg (Nat.not_le.mpr (Nat.zero_lt_of_lt hi)), hscan]

/-- A start scan from entry 0 over a list of which no entry's condition is true (R151, R153). -/
theorem startByRule_none (hrun : q.run = .armed ∨ (q.run = .ended ∧ q.config.endMode ≠ .once))
    (h : ∀ x ∈ q.list, x.cond.holds q.flagsCopy = false) (fc : FrameCount) (source : StartedBy) (r : ReportUnit) :
    startByRule defined fc source 0 q r =
      endByRule fc .empty q (r.enqueue fc (.emptyRun (some 0) q.list.length)) := by
  have hscan (order : List Nat) : scanByRule defined fc q order r = (none, r) :=
    scanByRule_none (fun _ _ x hx => h x (List.mem_of_getElem? hx)) fc r
  rw [startByRule, if_pos hrun]
  simp only [ite_self, hscan]

/-- An advance to the entry after the reference entry (R153, R154). -/
theorem advanceByRule_next {m : Nat} {e : SlideEntry} (hdrain : ¬(q.run = .draining ∧ q.drain = 0))
    (h : q.Eligible defined (m + 1) e) (fc : FrameCount) (r : ReportUnit) :
    advanceByRule defined fc (some m) q r =
      ({ q with
         target := some { entry := m + 1, ready := false, wait := 0 }, dwell := .absent
         drain := if q.run = .draining then q.drain - 1 else q.drain }, r) := by
  have hm : m + 1 < q.list.length := (List.getElem?_eq_some_iff.mp h.entry).1
  have hscan (l : List Nat) :
      scanByRule defined fc q ((List.range q.list.length).filter (m + 1 ≤ ·) ++ l) r = (some (m + 1), r) := by
    rw [filter_from_eq_cons hm, List.cons_append, scanByRule_eligible h]
  rw [advanceByRule, if_neg hdrain]
  simp only [Option.map_some, Option.getD_some, hscan]

/-- A backward step to the entry before the reference entry (R160). -/
theorem backByRule_prev {m : Nat} {e : SlideEntry} (href : referenceByRule q = some (m + 1))
    (h : q.Eligible defined m e) (fc : FrameCount) (r : ReportUnit) :
    backByRule defined fc q r =
      ({ q with target := some { entry := m, ready := false, wait := 0 }, dwell := .absent }, r) := by
  have hm : m < q.list.length := (List.getElem?_eq_some_iff.mp h.entry).1
  have hscan (l : List Nat) :
      scanByRule defined fc q (((List.range q.list.length).filter (· < m + 1)).reverse ++ l) r = (some m, r) := by
    rw [filter_before_reverse hm, List.cons_append, scanByRule_eligible h]
  rw [backByRule, href]
  simp only [hscan]

end Rules

/-! ### START (R151) -/

/-- START as it arrives: a start trigger of source COMMAND. -/
theorem exec_slideStart {s : State} (ha : Accepts s 1) :
    exec (.slideStart []) s = .next ((visited s 1).hear
      (startByRule (fun p => (s.engine.page p).defined) s.engine.fc .command 0 s.seq s.report)) :=
  (exec_slideOperation (segmentOf_slideStart []) ha).trans (congrArg Host.Outcome.next (startTrigger_eq_rule .command 0 _))

/-- Settles O52: by the rule, ignored, with an eligible entry and with none whose condition is true. -/
theorem startTriggerActs : Obligations.StartTriggerActs := by
  intro s ha u
  refine ⟨exec_slideStart ha, fun hignored => ?_, fun hrun => ⟨fun i e he hc hd before => ?_, fun hfalse => ?_⟩⟩
  · have hu : ¬(s.seq.run = .armed ∨ (s.seq.run = .ended ∧ s.seq.config.endMode ≠ .once)) := by
      obtain h | h | h | h | ⟨h, honce⟩ := hignored <;> simp [*]
    rw [exec_slideStart ha, startByRule, if_neg hu]
    rfl
  · rw [exec_slideStart ha, startByRule_eligible hrun ⟨he, hc, hd⟩ before]
    rfl
  · rw [exec_slideStart ha, startByRule_none hrun hfalse]
    rfl

/-! ### NEXT and PREV (R160) -/

theorem slideKey_next (s : State) :
    slideKey .next s = if s.seq.run = .running ∨ s.seq.run = .held ∨ s.seq.run = .draining then advance s else s := by
  unfold slideKey
  cases s.seq.run <;> rfl

theorem slideKey_prev (s : State) :
    slideKey .prev s = if s.seq.run = .running ∨ s.seq.run = .held then backStep s else s := by
  unfold slideKey
  cases s.seq.run <;> rfl

section Keys

variable {s : State} (ha : Accepts s 1)
include ha

/-- NEXT in the running states: an advance. -/
theorem exec_slideNext (hrun : s.seq.run = .running ∨ s.seq.run = .held ∨ s.seq.run = .draining) :
    exec (.slideNext []) s = .next ((visited s 1).hear
      (advanceByRule (fun p => (s.engine.page p).defined) s.engine.fc (referenceByRule s.seq) s.seq s.report)) := by
  rw [exec_slideOperation (segmentOf_slideNext []) ha]
  refine congrArg Host.Outcome.next ((slideKey_next _).trans ((if_pos hrun).trans ?_))
  rw [advance, advanceFrom_eq_rule, reference_eq_rule]
  rfl

theorem exec_slideNext_ignored (hrun : ¬(s.seq.run = .running ∨ s.seq.run = .held ∨ s.seq.run = .draining)) :
    exec (.slideNext []) s = .next (visited s 1) := by
  rw [exec_slideOperation (segmentOf_slideNext []) ha]
  exact congrArg Host.Outcome.next ((slideKey_next _).trans (if_neg hrun))

/-- PREV in RUNNING and HELD: a backward step. -/
theorem exec_slidePrev (hrun : s.seq.run = .running ∨ s.seq.run = .held) :
    exec (.slidePrev []) s = .next ((visited s 1).hear
      (backByRule (fun p => (s.engine.page p).defined) s.engine.fc s.seq s.report)) := by
  rw [exec_slideOperation (segmentOf_slidePrev []) ha]
  exact congrArg Host.Outcome.next ((slideKey_prev _).trans ((if_pos hrun).trans (backStep_eq_rule _)))

theorem exec_slidePrev_ignored (hrun : ¬(s.seq.run = .running ∨ s.seq.run = .held)) :
    exec (.slidePrev []) s = .next (visited s 1) := by
  rw [exec_slideOperation (segmentOf_slidePrev []) ha]
  exact congrArg Host.Outcome.next ((slideKey_prev _).trans (if_neg hrun))

end Keys

/-- Settles O53: both keys by the run state, then a reference entry with an eligible neighbour. -/
theorem nextAndPrev : Obligations.NextAndPrev := by
  intro s ha
  refine ⟨⟨exec_slideNext ha, exec_slidePrev ha⟩, fun h => ?_, fun h => ?_, fun h hd => ?_,
    fun r e href hc hp => ⟨fun he => ?_, ?_⟩⟩
  · exact ⟨exec_slideNext_ignored ha (by obtain h | h | h := h <;> simp [h]),
      exec_slidePrev_ignored ha (by obtain h | h | h := h <;> simp [h])⟩
  · exact exec_slidePrev_ignored ha (by simp [h])
  · rw [exec_slideNext ha (.inr (.inr h)), advanceByRule, if_pos ⟨h, hd⟩]
    rfl
  · have hnext (hdrain : ¬(s.seq.run = .draining ∧ s.seq.drain = 0)) := advanceByRule_next
      (defined := fun p => (s.engine.page p).defined) hdrain ⟨he, hc, hp⟩ s.engine.fc s.report
    rw [reference_eq_rule] at href
    refine ⟨fun hrun => ?_, fun hrun hpos => ?_⟩
    · have hnot : s.seq.run ≠ .draining := by obtain h | h := hrun <;> simp [h]
      rw [exec_slideNext ha (hrun.imp_right .inl), href, hnext fun h => hnot h.1, if_neg hnot]
      rfl
    · rw [exec_slideNext ha (.inr (.inr hrun)), href, hnext fun h => hpos.ne' h.2, if_pos hrun]
      rfl
  · intro hpos _ he hrun
    obtain ⟨m, rfl⟩ : ∃ m, r = m + 1 := ⟨r - 1, by omega⟩
    rw [reference_eq_rule] at href
    rw [exec_slidePrev ha hrun, backByRule_prev href ⟨he, hc, hp⟩]
    rfl

end Sys2Proof.Machine
end

section
/-! PROOFS. The parts of the sequencer's frame end by themselves: SLIDE_READY, LATE_SLIDE, DWELL_EXPIRY and TIME_TRIGGER
(R150, R155, R159). -/

namespace Sys2Proof.Machine

open Sys2Proof

/-! ### A READYING target (R155) -/

/-- A page is ready where the objects that its placements name are READY, UPDATING or SWAPPING (R155). -/
theorem pageReady_eq (s : State) (p : PageId) :
    pageReady s p = (s.engine.page p).cur.placements.all fun x => match s.store.slot x.obj with
      | .ready _ | .updating _ _ | .swapping _ _ => true
      | _ => false := by
  refine List.all_congr rfl fun x => ?_
  cases s.store.slot x.obj <;> rfl

section Target

variable {s : State} {t : Target} {e : SlideEntry}

/-- The page of an entry of the list. -/
theorem pageOf_of_getElem? {q : Sequencer} {i : Nat} (h : q.list[i]? = some e) : q.pageOf i = some e.page := by
  rw [Sequencer.pageOf, h]; rfl

theorem targetReady_eq (he : s.seq.list[t.entry]? = some e) : targetReady t s = pageReady s e.page := by
  rw [targetReady, pageOf_of_getElem? he]

/-- SLIDE_READY alone (R155). -/
theorem readyDone_eq (ht : s.seq.target = some t) (hr : t.ready = false) (he : s.seq.list[t.entry]? = some e) :
    readyDone s =
      if pageReady s e.page then s.setSeq { s.seq with target := some { t with ready := true } } else s := by
  simp only [readyDone, ht, hr, targetReady_eq he, true_and]
  rfl

/-- LATE-SLIDE (R155). -/
theorem lateTarget_eq (he : s.seq.list[t.entry]? = some e) :
    lateTarget t s = { s with
      seq := { s.seq with target := some { t with ready := true, wait := 300 } }
      report := s.report.enqueue s.engine.fc (.lateSlide t.entry e.page) } := by
  rw [lateTarget, pageOf_of_getElem? he]; rfl

/-- LATE_SLIDE alone (R155). -/
theorem lateDone_eq (ht : s.seq.target = some t) (hr : t.ready = false) (he : s.seq.list[t.entry]? = some e) :
    lateDone s =
      if pageReady s e.page = false ∧ 300 ≤ t.wait + 1 then
        { s with
          seq := { s.seq with target := some { t with ready := true, wait := 300 } }
          report := s.report.enqueue s.engine.fc (.lateSlide t.entry e.page) }
      else s := by
  simp only [lateDone, ht, hr, targetReady_eq he, lateTarget_eq he, true_and]

end Target

/-! ### The dwell (R159) -/

section Dwell

variable {s : State} {n : Nat}

/-- A dwell that expires is an advance (R159). -/
theorem expireDwell_eq_rule (s : State) :
    expireDwell s = s.hear (advanceByRule (fun p => (s.engine.page p).defined) s.engine.fc (referenceByRule s.seq)
      { s.seq with dwell := .absent } s.report) := by
  rw [expireDwell, advance, advanceFrom_eq_rule, reference_eq_rule]; rfl

/-- DWELL_EXPIRY where the count runs out. -/
theorem dwellDone_expires (hr : s.seq.run = .running ∨ s.seq.run = .draining) (hd : s.seq.dwell = .counting n)
    (hn : n ≤ 1) : dwellDone s = expireDwell s := by
  rw [dwellDone, if_pos hr, hd]; exact if_pos hn

/-- DWELL_EXPIRY in HELD, of a STILL dwell and of a count above 1 (log entry 6). -/
theorem dwellDone_stands (h : s.seq.run = .held ∨ s.seq.dwell = .still ∨ (s.seq.dwell = .counting n ∧ 1 < n)) :
    dwellDone s = s := by
  unfold dwellDone
  obtain hr | hd | ⟨hd, hn⟩ := h
  · exact if_neg (by simp [hr])
  · rw [hd]; exact ite_self _
  · rw [hd]; simp only [if_neg (Nat.not_le.mpr hn), ite_self]

end Dwell

/-! ### The time trigger (R150) -/

/-- The due rule (R69). -/
theorem isDue_iff (fc t : FrameCount) : isDue fc t = true ↔ (fc - t).toNat < 2 ^ 31 := decide_eq_true_iff

/-- TIME_TRIGGER in ARMED with a TIME start source whose T is due, and otherwise. -/
theorem testTime_eq_rule (s : State) :
    testTime s =
      if s.seq.run = .armed ∧ s.seq.config.startKind = .time ∧
          (s.engine.fc - s.seq.config.startTime).toNat < 2 ^ 31 then
        s.hear (startByRule (fun p => (s.engine.page p).defined) s.engine.fc .time 0 s.seq s.report)
      else s := by
  have due : timeDue s = true ↔ s.seq.run = .armed ∧ s.seq.config.startKind = .time ∧
      (s.engine.fc - s.seq.config.startTime).toNat < 2 ^ 31 := by
    simp only [timeDue, Bool.and_eq_true, beq_iff_eq, isDue_iff, and_assoc]
  simp only [testTime, due, startTrigger_eq_rule]

/-- Settles O55: the target's two rows, the dwell's and the time trigger's. -/
theorem sequencerPartSteps : Obligations.SequencerPartSteps := by
  refine ⟨fun t e s hs ht hr he => ?_, fun n r s hs => ⟨fun hrun hd hn => ?_, fun hrun hd hn ht hp hsh e he hc hdef => ?_,
    fun h => ?_⟩, fun s hs => ⟨fun h => ?_, fun h => ?_, fun h e he hc hdef => ?_⟩⟩
  · intro ready
    have hready : pageReady s e.page = ready := pageReady_eq s e.page
    rw [← hready]
    exact ⟨congrArg _ ((unlessHeld_high hs _).trans (readyDone_eq ht hr he)),
      congrArg _ ((unlessHeld_high hs _).trans (lateDone_eq ht hr he))⟩
  · exact congrArg _ ((unlessHeld_high hs _).trans ((dwellDone_expires hrun hd hn).trans (expireDwell_eq_rule s)))
  · have href : referenceByRule s.seq = some r := by rw [referenceByRule, ht, hp, hsh]; rfl
    have hnot : s.seq.run ≠ .draining := by rw [hrun]; exact nofun
    refine congrArg Host.Outcome.next ((unlessHeld_high hs _).trans ((dwellDone_expires (.inl hrun) hd hn).trans ?_))
    rw [expireDwell_eq_rule, href,
      advanceByRule_next (q := { s.seq with dwell := .absent }) (fun h => hnot h.1) ⟨he, hc, hdef⟩, if_neg hnot]
    rfl
  · exact congrArg _ ((unlessHeld_high hs _).trans (dwellDone_stands h))
  · exact congrArg _ ((unlessHeld_high hs _).trans ((testTime_eq_rule s).trans (if_neg h)))
  · exact congrArg _ ((unlessHeld_high hs _).trans ((testTime_eq_rule s).trans (if_pos h)))
  · refine congrArg Host.Outcome.next ((unlessHeld_high hs _).trans ((testTime_eq_rule s).trans ((if_pos h).trans ?_)))
    rw [startByRule_eligible (.inl h.1) ⟨he, hc, hdef⟩ fun j hj => absurd hj (Nat.not_lt_zero j)]
    rfl

end Sys2Proof.Machine
end

section
/-! PROOFS. What the blocks do to the report unit: they raise reports, one after another, and change nothing else of it
(R167, R168). -/

namespace Sys2Proof.Machine

open Sys2Proof

/-- One report unit becomes another by reports raised one after another. -/
inductive ReportUnit.Raises (u : ReportUnit) : ReportUnit → Prop where
  | refl : u.Raises u
  | enqueue {v : ReportUnit} (h : u.Raises v) (fc : FrameCount) (b : ReportBody) : u.Raises (v.enqueue fc b)

/-- From `s` to `t` reports have been raised, and nothing else has reached the report unit. -/
def Tells (s t : State) : Prop := s.report.Raises t.report

variable {s0 s t : State}

theorem Tells.refl (s : State) : Tells s s := ReportUnit.Raises.refl

/-- What leaves the report unit alone raises nothing. -/
theorem Tells.of_report (h : Tells s0 s) (e : t.report = s.report) : Tells s0 t := by rw [Tells, e]; exact h

theorem Tells.raise (h : Tells s0 s) (b : ReportBody) : Tells s0 (s.raise b) := ReportUnit.Raises.enqueue h _ b

theorem Tells.raiseAt (h : Tells s0 s) (fc : FrameCount) (b : ReportBody) : Tells s0 (s.raiseAt fc b) :=
  ReportUnit.Raises.enqueue h fc b

theorem Tells.malformed (h : Tells s0 s) (k : Kind) (b : List Byte) : Tells s0 (malformed k b s) := h.raise _

/-- A fold of steps that raise reports raises reports. -/
theorem Tells.foldl {α : Type} {f : State → α → State} (hf : ∀ {s} x, Tells s0 s → Tells s0 (f s x)) (l : List α)
    (h : Tells s0 s) : Tells s0 (l.foldl f s) := List.foldlRecOn l f h fun _ h x _ => hf x h

/-! ### The sequencer (chapter 8) -/

/-- R83. -/
theorem Tells.insertEntry (h : Tells s0 s) (x : ShowEntry) : Tells s0 (insertEntry x s).2 := by
  unfold Machine.insertEntry
  split
  · exact h
  · exact h.raise _

theorem Tells.endRun (h : Tells s0 s) (why : EndReason) (final : RunState) : Tells s0 (endRun why final s) := h.raise _

theorem Tells.scanEntries (h : Tells s0 s) (order : List Nat) : Tells s0 (scanEntries order s).2 := by
  induction order generalizing s with
  | nil => exact h
  | cons i order ih =>
    unfold Machine.scanEntries
    split
    · exact ih h
    · split_ifs
      · exact ih h
      · exact h
      · exact ih (h.raise _)

/-- The state that a scan leaves, found or not. -/
theorem Tells.scan (h : Tells s0 s) {order : List Nat} {found : Option Nat}
    (e : Machine.scanEntries order s = (found, t)) : Tells s0 t := by
  have scanned := h.scanEntries order
  rwa [e] at scanned

theorem Tells.advanceScan (h : Tells s0 s) (ref : Option Nat) : Tells s0 (advanceScan ref s) := by
  unfold Machine.advanceScan
  split
  · next i t e =>
    have scanned : Tells s0 t := h.scan e
    exact scanned
  · next t e =>
    split
    · exact ((h.scan e).raise _).endRun ..
    · exact (h.scan e).endRun ..

theorem Tells.advanceFrom (h : Tells s0 s) (ref : Option Nat) : Tells s0 (advanceFrom ref s) := by
  have counted : Tells s0 (s.setSeq { s.seq with drain := s.seq.drain - 1 }) := h
  unfold Machine.advanceFrom
  split_ifs
  · exact h.endRun ..
  · exact counted.advanceScan ref
  · exact h.advanceScan ref

theorem Tells.advance (h : Tells s0 s) : Tells s0 (advance s) := h.advanceFrom _

theorem Tells.backStep (h : Tells s0 s) : Tells s0 (backStep s) := by
  unfold Machine.backStep
  split
  · exact h
  · split <;>
      next t e =>
        have scanned : Tells s0 t := h.scan e
        exact scanned

theorem Tells.startRun (h : Tells s0 s) (source : StartedBy) (e : Nat) : Tells s0 (startRun source e s) := by
  have running : Tells s0 (s.setSeq { s.seq with run := .running }) := h
  unfold Machine.startRun
  split
  · next i t found =>
    have scanned : Tells s0 t := running.scan found
    have aimed : Tells s0 (t.setSeq { t.seq.aim i with drain := 0 }) := scanned
    exact aimed.raise _
  · next t found => exact ((running.scan found).raise _).endRun ..

theorem Tells.startTrigger (h : Tells s0 s) (source : StartedBy) (e : Nat) : Tells s0 (startTrigger source e s) := by
  unfold Machine.startTrigger
  cases s.seq.run with
  | idle | running | held | draining => exact h
  | armed => exact h.startRun ..
  | ended =>
    dsimp only
    split
    · exact h
    · exact h.startRun ..

theorem Tells.stopTrigger (h : Tells s0 s) : Tells s0 (stopTrigger s) := by
  unfold Machine.stopTrigger
  split
  case h_5 | h_6 =>
    split
    · exact h.endRun ..
    · exact h
  all_goals exact h

theorem Tells.flagsNotice (h : Tells s0 s) (new : Half) : Tells s0 (flagsNotice new s) := by
  have copied : Tells s0 (s.setSeq { s.seq with flagsCopy := new }) := h
  unfold Machine.flagsNotice
  dsimp only
  split_ifs
  · exact (copied.startTrigger ..).stopTrigger
  · exact copied.stopTrigger
  · exact copied.startTrigger ..
  · exact copied

theorem Tells.slideKey (h : Tells s0 s) (k : SlideKey) : Tells s0 (slideKey k s) := by
  unfold Machine.slideKey
  cases s.seq.run with
  | idle | armed | ended => exact h
  | running | held =>
    cases k with
    | pause | resume | pauseResume => exact h
    | next => exact h.advance
    | prev => exact h.backStep
  | draining =>
    cases k with
    | next => exact h.advance
    | pause | resume | pauseResume | prev => exact h

theorem Tells.expireDwell (h : Tells s0 s) : Tells s0 (expireDwell s) := by
  have absent : Tells s0 (s.setSeq { s.seq with dwell := .absent }) := h
  exact absent.advance

theorem Tells.countDwell (h : Tells s0 s) : Tells s0 (countDwell s) := by
  unfold Machine.countDwell
  split
  · split
    · split
      · exact h.expireDwell
      · exact h
    all_goals exact h
  · exact h

theorem Tells.lateTarget (h : Tells s0 s) (x : Target) : Tells s0 (lateTarget x s) := by
  unfold Machine.lateTarget
  split
  · exact h.raise _
  · exact h

theorem Tells.testTarget (h : Tells s0 s) : Tells s0 (testTarget s) := by
  unfold Machine.testTarget
  split
  · exact h
  · split_ifs
    · exact h
    · exact h
    · exact h.lateTarget _
    · exact h

theorem Tells.testTime (h : Tells s0 s) : Tells s0 (testTime s) := by
  unfold Machine.testTime
  split
  · exact h.startTrigger ..
  · exact h

theorem Tells.insertTarget (h : Tells s0 s) : Tells s0 (insertTarget s) := by
  unfold Machine.insertTarget
  split
  · exact h
  · split
    · split
      · exact h
      · next e _ =>
        have inserted := h.insertEntry (slideShow e)
        split <;> next s1 hs => rw [hs] at inserted; exact inserted
    · exact h

theorem Tells.sequencerEnd (h : Tells s0 s) : Tells s0 (sequencerEnd s) :=
  h.countDwell.testTarget.testTime.insertTarget

theorem Tells.dwellDone (h : Tells s0 s) : Tells s0 (dwellDone s) := by
  unfold Machine.dwellDone
  split
  · split
    · split
      · exact h.expireDwell
      · exact h
    all_goals exact h
  · exact h

theorem Tells.readyDone (h : Tells s0 s) : Tells s0 (readyDone s) := by
  unfold Machine.readyDone
  split
  · split <;> exact h
  · exact h

theorem Tells.lateDone (h : Tells s0 s) : Tells s0 (lateDone s) := by
  unfold Machine.lateDone
  split
  · split
    · exact h.lateTarget _
    · exact h
  · exact h

theorem Tells.slideShown (h : Tells s0 s) (p : PageId) : Tells s0 (slideShown p s) := by
  unfold Machine.slideShown
  split
  · exact h
  · next x _ =>
    have shown (q : Sequencer) : Tells s0 (s.setSeq q) := h
    dsimp only
    split
    · exact (shown _).raise _
    · exact h

theorem Tells.slideComplete (h : Tells s0 s) : Tells s0 (slideComplete s) := by
  unfold Machine.slideComplete
  split <;> exact h

theorem Tells.slideNotApplied (h : Tells s0 s) : Tells s0 (slideNotApplied s) := by
  unfold Machine.slideNotApplied
  split
  · exact h
  · next x _ =>
    have skipped (q : Sequencer) : Tells s0 ((s.raise (.entrySkipped x.entry x.page)).setSeq q) := h.raise _
    dsimp only
    split
    · exact (skipped _).advanceFrom _
    · exact skipped _

theorem Tells.takeSlideList (h : Tells s0 s) (b : List Byte) : Tells s0 (takeSlideList b s) := by
  unfold Machine.takeSlideList
  split
  · exact h.malformed ..
  · split
    · exact h.raise _
    · exact h

theorem Tells.takeSlideControl (h : Tells s0 s) (b : List Byte) : Tells s0 (takeSlideControl b s) := by
  unfold Machine.takeSlideControl
  split
  case h_1 => exact h.malformed ..
  case h_2 c _ =>
    unfold slideConfigure
    cases s.seq.run with
    | idle | ended => exact h
    | armed | running | held | draining => exact h.raise _
  case h_3 =>
    unfold slideArm
    split
    · exact h.raise _
    · exact h
  case h_4 =>
    unfold slideDisarm
    split
    · exact h.endRun ..
    · exact h
  case h_5 => exact h.startTrigger ..
  case h_6 => exact h.stopTrigger
  all_goals exact h.slideKey _

/-! ### The navigation unit (chapter 7) -/

theorem Tells.writeFlags (h : Tells s0 s) (new : Half) : Tells s0 (writeFlags new s) := by
  have written : Tells s0 (s.setNav { s.nav with flags := new, flagsChanged := true }) := h
  unfold Machine.writeFlags
  split
  · exact h
  · exact written.flagsNotice new

theorem Tells.insertWith (h : Tells s0 s) (c : NavCtx) (e : ShowEntry) (l : List (PageId × Option Nat)) :
    Tells s0 (insertWith c e l s) := by
  have inserted := h.insertEntry e
  unfold Machine.insertWith
  split <;> next s1 hs => rw [hs] at inserted; exact inserted

theorem Tells.goBack (h : Tells s0 s) (c : NavCtx) (x : Transition) : Tells s0 (goBack c x s) := by
  unfold Machine.goBack
  dsimp only
  split
  · exact h.insertWith ..
  · cases c with
    | menu => exact h.raise _
    | popup => exact h.insertEntry _

theorem Tells.performAction (h : Tells s0 s) (c : NavCtx) (a : Action) : Tells s0 (performAction c a s) := by
  cases a with
  | none => exact h
  | goto q x => exact h.insertWith ..
  | replace q x => exact h.insertEntry _
  | back x => exact h.goBack c x
  | close x => exact h.insertWith ..
  | slidesStart e =>
    unfold Machine.performAction buttonStart
    dsimp only
    split
    · exact h.startTrigger ..
    · exact h
  | slidesStop =>
    unfold Machine.performAction buttonStop
    dsimp only
    split
    · exact h.stopTrigger
    · exact h
  | setFlags set clear =>
    unfold Machine.performAction setFlagsAction
    dsimp only
    split
    · exact h
    · exact (h.raise _).writeFlags _

theorem Tells.finishActivation (h : Tells s0 s) (c : NavCtx) (i : Nat) : Tells s0 (finishActivation c i s) := by
  have execute {s : State} (h : Tells s0 s) : Tells s0 (executeAction c i s) := by
    unfold executeAction
    split
    · exact h
    · next b _ =>
      cases b.notify with
      | none => exact h.performAction c b.action
      | some code => exact (h.raise _).performAction c b.action
  have ended (x : NavState) : Tells s0 (s.setNavState c x) := h
  exact execute (ended _)

theorem Tells.activate (h : Tells s0 s) (c : NavCtx) (i : Nat) : Tells s0 (activate c i s) := by
  have activating (x : NavState) : Tells s0 (s.setNavState c x) := h
  unfold Machine.activate
  dsimp only
  split
  · exact (activating _).finishActivation c i
  · exact h

theorem Tells.countActivation (h : Tells s0 s) (c : NavCtx) : Tells s0 (countActivation c s) := by
  unfold Machine.countActivation
  dsimp only
  split
  · exact h
  · split
    · exact h.finishActivation ..
    · exact h

theorem Tells.selectIn (h : Tells s0 s) (c : NavCtx) (j : Nat) : Tells s0 (selectIn c j s) := h

theorem Tells.arrowKey (h : Tells s0 s) (c : NavCtx) (d : Direction) : Tells s0 (arrowKey c d s) := by
  unfold Machine.arrowKey
  dsimp only
  split
  · exact h
  · next j _ =>
    split
    · exact (h.selectIn c j).activate c j
    · exact h.selectIn c j

theorem Tells.contextKey (h : Tells s0 s) (c : NavCtx) (e : KeyEntry) : Tells s0 (contextKey c e s) := by
  unfold Machine.contextKey
  split
  · exact h
  · cases e.key with
    | up => exact h.arrowKey c .up
    | down => exact h.arrowKey c .down
    | left => exact h.arrowKey c .left
    | right => exact h.arrowKey c .right
    | back => exact h.goBack c .cut
    | popup => exact h
    | ok =>
      unfold okKey
      dsimp only
      split
      · exact h.activate ..
      · exact h
    | number =>
      unfold numberKey
      dsimp only
      split
      · next j _ => exact (h.selectIn c j).activate c j
      · exact h

theorem Tells.popupKey (h : Tells s0 s) : Tells s0 (popupKey s) := by
  unfold Machine.popupKey
  split
  · exact h.insertWith ..
  · split
    · exact h.insertEntry _
    · exact h

theorem Tells.slideFocusKey (h : Tells s0 s) (k : Key) : Tells s0 (slideFocusKey k s) := by
  cases k with
  | right => exact h.slideKey .next
  | left => exact h.slideKey .prev
  | ok => exact h.slideKey .pauseResume
  | up | down | back | number | popup => exact h

theorem Tells.takeOneKey (h : Tells s0 s) : Tells s0 (takeOneKey s) := by
  unfold Machine.takeOneKey
  split
  · exact h
  · next e rest _ =>
    have taken : Tells s0 (s.setNav { s.nav with keys := rest }) := h
    unfold handleKey
    split
    · exact taken.popupKey
    · split
      · exact taken.contextKey ..
      · exact taken.slideFocusKey _

theorem Tells.navEnd (h : Tells s0 s) : Tells s0 (navEnd s) := by
  have evaluated : Tells s0 (evaluateConditions (clearFresh s)) := by
    unfold evaluateConditions
    dsimp only
    split <;> exact h
  exact ((evaluated.countActivation .menu).countActivation .popup).takeOneKey

theorem Tells.activationDone (h : Tells s0 s) (c : NavCtx) : Tells s0 (activationDone c s) := by
  unfold Machine.activationDone
  split
  · split
    · exact h.finishActivation ..
    · exact h
  · exact h

theorem Tells.playheadDone (h : Tells s0 s) (c : NavCtx) (i : Nat) : Tells s0 (playheadDone c i s) := by
  unfold Machine.playheadDone
  dsimp only
  split <;> exact h

theorem Tells.navRedefined (h : Tells s0 s) (p : PageId) : Tells s0 (navRedefined p s) := by
  have one (c : NavCtx) {s : State} (h : Tells s0 s) : Tells s0 (navRedefinedIn c p s) := by
    unfold navRedefinedIn
    dsimp only
    split <;> exact h
  exact one .popup (one .menu h)

/-! ### The composition engine (chapter 5) -/

theorem Tells.noticeShown (h : Tells s0 s) (c : Ctx) (p : Option PageId) (restore : Option Nat) :
    Tells s0 (noticeShown c p restore s) := by
  cases c with
  | slide => cases p with
    | none => exact h
    | some p => exact h.slideShown p
  | menu | popup => cases p <;> exact h

theorem Tells.noticeNotApplied (h : Tells s0 s) (e : ShowEntry) : Tells s0 (noticeNotApplied e s) := by
  unfold Machine.noticeNotApplied
  split
  · exact h.slideNotApplied
  · exact h

theorem Tells.endTransition (h : Tells s0 s) (c : Ctx) : Tells s0 (endTransition c s) := by
  have shows (x : CtxState) : Tells s0 (s.setCtx c x) := h
  unfold Machine.endTransition
  split
  · cases c with
    | slide => exact (shows _).slideComplete
    | menu | popup => exact h
  all_goals exact h

theorem Tells.stepContext (h : Tells s0 s) (c : Ctx) : Tells s0 (stepContext c s) := by
  unfold Machine.stepContext
  split
  · split
    · exact h.endTransition c
    · exact h
  all_goals exact h

theorem Tells.transitionDone (h : Tells s0 s) (c : Ctx) : Tells s0 (transitionDone c s) := by
  unfold Machine.transitionDone
  split
  · split
    · exact h.endTransition c
    · exact h
  all_goals exact h

theorem Tells.applyAllPending (h : Tells s0 s) : Tells s0 (applyAllPending s) := by
  refine Tells.foldl (fun {s} p h => ?_) _ h
  have defined (x : Engine) : Tells s0 (s.setEngine x) := h
  unfold applyPending
  split
  · exact h
  · dsimp only
    split_ifs
    · exact (defined _).navRedefined p
    · exact h
    · exact h

theorem Tells.resolveSchedule (h : Tells s0 s) : Tells s0 (resolveSchedule s) :=
  Tells.foldl (fun e h => (h.raise _).noticeNotApplied e) _ (h.of_report (State.setEngine_report _ _))

theorem Tells.acceptWinner (h : Tells s0 s) (e : ShowEntry) : Tells s0 (acceptWinner e s) := by
  have changed (x : CtxState) : Tells s0 ((Machine.endTransition e.ctx s).setCtx e.ctx x) := h.endTransition e.ctx
  have reported {s : State} (h : Tells s0 s) : Tells s0 (reportShown e s) := by
    unfold reportShown
    dsimp only
    split
    · exact (h.raise _).raise _
    · exact h.raise _
  exact (reported (changed _)).noticeShown ..

theorem Tells.applyWinnerOf (h : Tells s0 s) (w : Option (Nat × ShowEntry)) : Tells s0 (applyWinnerOf w s) := by
  cases w with
  | none => exact h
  | some x =>
    unfold Machine.applyWinnerOf applyWinner
    dsimp only
    split
    · exact (h.raise _).noticeNotApplied x.2
    · exact (h.raise _).noticeNotApplied x.2
    · exact h.acceptWinner x.2

theorem Tells.engineStart (h : Tells s0 s) : Tells s0 (engineStart s) := by
  have moved : Tells s0 (moveClock s) := h
  have scrolled : Tells s0 (applyScrolls (Machine.applyAllPending (moveClock s))) :=
    moved.applyAllPending.of_report (State.setEngine_report _ _)
  have stepped := ((scrolled.stepContext .slide).stepContext .menu).stepContext .popup
  have run {s : State} (h : Tells s0 s) : Tells s0 (runSchedule s) :=
    ((h.resolveSchedule.applyWinnerOf _).applyWinnerOf _).applyWinnerOf _
  have recomputed {s : State} (h : Tells s0 s) : Tells s0 (recomputeLive s) := h.of_report (State.setEngine_report _ _)
  exact (recomputed (run stepped)).of_report (State.setSkew_report _ _)

/-! ### The decoder, the palette unit and the mixer (chapters 2, 3, 4 and 6) -/

theorem Tells.takeFragment (h : Tells s0 s) (b : List Byte) : Tells s0 (takeFragment b s) := by
  have held (k : ObjId) : Tells s0 (endHeldLoad k s) := by
    unfold endHeldLoad
    split
    case h_1 l _ => exact h.raise _
    all_goals exact h
  unfold Machine.takeFragment
  split
  · exact h.malformed ..
  · unfold requestLoad
    split
    · exact held _
    · exact (held _).raise _
    · exact held _
  · unfold joinLoad
    dsimp only
    split
    · split
      · exact h
      · exact h.raise _
    · split
      · exact h
      · exact h.raise _
    · exact h.raise _
    · exact h

theorem Tells.takeDrop (h : Tells s0 s) (b : List Byte) : Tells s0 (takeDrop b s) := by
  unfold Machine.takeDrop dropObject
  split
  · exact h.malformed ..
  · dsimp only
    split
    · exact h.raise _
    · exact h

/-- READY, or DAMAGED and ABANDONED (R29, R50). -/
theorem Tells.completeFragment (h : Tells s0 s) (l : Load) (pos : Position) (code : List Byte) :
    Tells s0 (completeFragment l pos code s) := by
  unfold Machine.completeFragment
  split
  · exact (h.raise _).raise _
  · split
    · exact h
    · exact h
    · exact h.raise _
    · exact h.raise _

theorem Tells.takePalette (h : Tells s0 s) (b : List Byte) : Tells s0 (takePalette b s) := by
  unfold Machine.takePalette applyPalette
  split
  · exact h.malformed ..
  · split
    · exact h
    all_goals
      split
      · exact h
      · exact h.raise _

theorem Tells.paletteStart (h : Tells s0 s) : Tells s0 (paletteStart s) := by
  unfold Machine.paletteStart testPatch
  split
  · split
    · exact h.raiseAt ..
    · exact h
  all_goals exact h

theorem Tells.mixLine (h : Tells s0 s) (l : List Pixel) : Tells s0 (mixLine l s) := by
  unfold Machine.mixLine
  split
  · exact h
  · split <;> exact h

theorem Tells.mixerEnd (h : Tells s0 s) : Tells s0 (mixerEnd s) := by
  have overload : Tells s0 (reportOverload s) := by
    unfold reportOverload
    split
    · exact h.raise _
    · exact h
  have raster (old : RasterState) {s : State} (h : Tells s0 s) : Tells s0 (reportRaster old s) := by
    unfold reportRaster
    split
    · exact h
    · split
      · exact h.raise _
      · exact h.raise _
      · exact h
  unfold Machine.mixerEnd
  split
  · exact h
  · have closed (x : Mixer) : Tells s0 ((reportOverload s).setMixer x) := overload
    exact raster _ (closed _)

/-! ### The segments (R12) -/

/-- Every owner of a segment only raises reports, but for the report unit, which takes Attention Mask and Restart. -/
theorem Tells.takeSegment {g : Segment} (hk : g.kind ∉ [Kind.attentionMask, .restart]) (h : Tells s0 s) :
    Tells s0 (takeSegment g s) := by
  obtain ⟨k, b⟩ := g
  cases k with
  | setOpen =>
    simp only [Machine.takeSegment, takeSetOpen]
    split
    · exact h.malformed ..
    · exact h.of_report (by simp [setOpen])
  | objectData => exact h.takeFragment b
  | objectDrop => exact h.takeDrop b
  | palette => exact h.takePalette b
  | page => simp only [Machine.takeSegment, takePage]; split; exacts [h.malformed .., h]
  | buttons => simp only [Machine.takeSegment, takeButtons]; split; exacts [h.malformed .., h]
  | animations => simp only [Machine.takeSegment, takeAnimations]; split; exacts [h.malformed .., h]
  | scroll =>
    simp only [Machine.takeSegment, takeScroll]
    split
    · exact h.malformed ..
    · split_ifs
      · exact h
      · exact h
      · exact h.malformed ..
  | showPage =>
    simp only [Machine.takeSegment, takeShow]
    split
    · exact h.malformed ..
    · split
      · exact h.raise _
      · exact h.insertEntry _
  | slideList => exact h.takeSlideList b
  | key =>
    simp only [Machine.takeSegment, takeKey, queueKey]
    split
    · exact h.malformed ..
    · split_ifs
      · exact h
      · exact h
      · exact h.raise _
  | flags => simp only [Machine.takeSegment, takeFlags]; split; exacts [h.malformed .., h.writeFlags _]
  | clock => simp only [Machine.takeSegment, takeClock]; split; exacts [h.malformed .., h]
  | output => simp only [Machine.takeSegment, takeOutput]; split; exacts [h.malformed .., h]
  | slideControl => exact h.takeSlideControl b
  | statusRequest =>
    simp only [Machine.takeSegment, takeStatus]
    split
    · exact (h.raise _).raise _
    · exact h.malformed ..
  | attentionMask | restart => exact absurd (by simp) hk

end Sys2Proof.Machine
end

section
/-! PROOFS. Every step keeps the laws of the report unit (R166, R169, R170, R174). -/

namespace Sys2Proof.Machine

open Sys2Proof

/-! ### The laws by the report unit alone -/

/-- The report unit's laws but for the one that also names the reset pin. -/
structure ReportUnit.Lawful (u : ReportUnit) : Prop where
  bound : u.queue.length ≤ Config.maxReports
  attn : u.attn = u.queue.any (enabledIn u.mask)
  position : u.readPos ≤ ((u.queue.head?).map Report.len).getD 0

theorem reportInv_iff (s : State) : ReportInv s ↔ s.report.Lawful ∧ (s.resetLow = true → s.report.queue = []) :=
  ⟨fun h => ⟨⟨h.bound, h.attn, h.position⟩, h.low⟩, fun ⟨u, low⟩ => ⟨u.bound, u.attn, u.position, low⟩⟩

theorem ReportInv.lawful {s : State} (h : ReportInv s) : s.report.Lawful := ((reportInv_iff s).mp h).1

/-- With the pin high the laws are those of the report unit alone. -/
theorem ReportUnit.Lawful.reportInv {s : State} (h : s.report.Lawful) (high : s.resetLow = false) : ReportInv s :=
  (reportInv_iff s).mpr ⟨h, fun low => nomatch high.symm.trans low⟩

/-- The laws read the report unit and the pin alone. -/
theorem ReportInv.congr {s t : State} (h : ReportInv s) (hr : t.report = s.report) (hl : t.resetLow = s.resetLow) :
    ReportInv t := by
  rw [reportInv_iff, hr, hl]
  exact (reportInv_iff s).mp h

namespace ReportUnit

variable {u v : ReportUnit}

/-- A raised report behind the head leaves the read position within it; one that becomes the head finds it at 0. -/
theorem Lawful.enqueue (h : u.Lawful) (fc : FrameCount) (b : ReportBody) : (u.enqueue fc b).Lawful where
  bound := enqueue_bound h.bound fc b
  attn := enqueue_attn h.attn fc b
  position := by
    have position := h.position
    rw [enqueue_readPos]
    by_cases hq : u.queue = []
    · rw [hq] at position
      exact position.trans (Nat.zero_le _)
    · rwa [enqueue_head hq]

theorem Lawful.raises (h : u.Lawful) (hr : u.Raises v) : v.Lawful := by
  induction hr with
  | refl => exact h
  | enqueue _ fc b ih => exact ih.enqueue fc b

/-- A byte read: the position moves on within the head report, or that report leaves at its last byte (R169). -/
theorem Lawful.read (h : u.Lawful) : u.read.Lawful := by
  unfold ReportUnit.read
  split
  · exact { h with }
  · next r rest hq =>
    have bound : rest.length + 1 ≤ Config.maxReports := by simpa [hq] using h.bound
    split
    · exact ⟨(Nat.le_succ _).trans bound, rfl, Nat.zero_le _⟩
    · next hlen =>
      refine { h with position := ?_ }
      dsimp only
      rw [hq]
      exact Nat.lt_of_not_le hlen

/-- A new mask, against which ATTN is tested at once (R171). -/
theorem Lawful.setMask (h : u.Lawful) (mask : Byte) : (testAttn { u with mask := mask }).Lawful :=
  ⟨h.bound, rfl, h.position⟩

/-- RESTART-DONE alone waits after a reset, and its class is enabled (R173, R175). -/
theorem reset_lawful (cause : Cause) (port : Byte) : (ReportUnit.reset cause port).Lawful where
  bound := Nat.le_of_ble_eq_true rfl
  attn := by simp [ReportUnit.reset, enabledIn, resetMask, ReportBody.cls, ReportClass.code]
  position := Nat.zero_le _

theorem low_lawful (port : Byte) : (ReportUnit.low port).Lawful := ⟨Nat.zero_le _, rfl, Nat.zero_le _⟩

end ReportUnit

/-! ### The segments and the receiver -/

theorem takeSegment_lawful (g : Segment) {s : State} (h : s.report.Lawful) : (takeSegment g s).report.Lawful := by
  by_cases hk : g.kind ∈ [Kind.attentionMask, .restart]
  · obtain ⟨k, b⟩ := g
    simp only [List.mem_cons, List.not_mem_nil, or_false] at hk
    obtain rfl | rfl := hk
    · simp only [takeSegment, takeMask]
      split
      · exact h.enqueue ..
      · exact h.setMask _
    · simp only [takeSegment, takeRestart]
      split
      · exact ReportUnit.reset_lawful ..
      · exact h.enqueue ..
  · exact h.raises ((Tells.refl s).takeSegment hk)

/-- No byte and no segment breaks the laws. -/
theorem lawful_routed : Routed fun s => s.report.Lawful where
  port _ _ h := h
  raise _ _ h := h.enqueue ..
  segment g _ h := takeSegment_lawful g h
  fragment l pos code s h := h.raises ((Tells.refl s).completeFragment l pos code)

theorem fragmentDone_resetLow (s : State) : (fragmentDone s).resetLow = s.resetLow := by
  unfold fragmentDone
  split
  · next l pos code _ => exact (drainContent_resetLow _ _).trans (completeFragment_resetLow l pos code s)
  all_goals rfl

/-! ### Every command -/

/-- A command that acts while the pin is high, and does not move it, keeps the laws if the report unit keeps its own. -/
theorem unlessHeld_reportInv {f : State → State} {s : State} (hlow : (f s).resetLow = s.resetLow)
    (hf : s.report.Lawful → (f s).report.Lawful) (h : ReportInv s) : ReportInv (unlessHeld f s) := by
  unfold unlessHeld
  split
  · exact h
  · next high => exact (hf h.lawful).reportInv (hlow.trans (Bool.eq_false_iff.mpr high))

/-- A command that leaves the front alone and only raises reports keeps the laws. -/
theorem unlessHeld_reportInv_of_tells {f : State → State} {s : State} (hf : (f s).front = s.front)
    (ht : Tells s s → Tells s (f s)) (h : ReportInv s) : ReportInv (unlessHeld f s) :=
  unlessHeld_reportInv (resetLow_of_front hf) (fun u => u.raises (ht (.refl s))) h

/-- A held part has no report to read, and a read strobe on it leaves it none (R174). -/
theorem readStrobe_reportInv {s : State} (h : ReportInv s) :
    ReportInv (if s.resetLow then s.setReport { s.report with port := 0 } else s.setReport s.report.read) := by
  split
  · exact { h with }
  · next high => exact ReportUnit.Lawful.reportInv h.lawful.read (Bool.eq_false_iff.mpr high)

/-- Every command keeps the laws of the report unit. -/
theorem exec_reportInv {s t : State} (h : ReportInv s) (c : Instr) (he : exec c s = .next t) : ReportInv t := by
  cases hg : segmentOf c with
  | some g =>
    obtain rfl := Host.Outcome.next.inj ((exec_segmentOf hg s).symm.trans he)
    exact unlessHeld_reportInv (present_resetLow g s) (lawful_routed.present g) h
  | none =>
    cases c with
    | segmentByte b =>
      cases he; exact unlessHeld_reportInv (receiveByte_resetLow b s) (lawful_routed.receiveByte b) h
    | fragmentComplete =>
      cases he; exact unlessHeld_reportInv (fragmentDone_resetLow s) lawful_routed.fragmentDone h
    | engineFrameStart => cases he; exact unlessHeld_reportInv_of_tells (engineStart_front s) (·.engineStart) h
    | transitionEnd x => cases he; exact unlessHeld_reportInv_of_tells (transitionDone_front x s) (·.transitionDone x) h
    | storeFrameStart => cases he; exact unlessHeld_keeps (·.congr (State.setStore_report ..) (State.setStore_resetLow ..)) h
    | paletteFrameStart => cases he; exact unlessHeld_reportInv_of_tells (paletteStart_front s) (·.paletteStart) h
    | mixerFrameStart => cases he; exact unlessHeld_keeps (·.congr (State.setMixer_report ..) (State.setMixer_resetLow ..)) h
    | line l =>
      cases he
      split
      · exact h.congr rfl rfl
      · next high =>
        exact (h.lawful.raises ((Tells.refl s).mixLine l)).reportInv
          ((resetLow_of_front (mixLine_front l s)).trans (Bool.eq_false_iff.mpr high))
    | mixerFrameEnd =>
      cases he; exact unlessHeld_reportInv_of_tells (by simp [settleSkew]) (fun h => h.mixerEnd) h
    | storeFrameEnd => cases he; exact unlessHeld_keeps (·.congr (by simp [settleSkew]) (by simp [settleSkew])) h
    | navFrameEnd => cases he; exact unlessHeld_reportInv_of_tells (by simp [settleSkew]) (fun h => h.navEnd) h
    | activationExpiry x => cases he; exact unlessHeld_reportInv_of_tells (activationDone_front x s) (·.activationDone x) h
    | playheadStep x i => cases he; exact unlessHeld_reportInv_of_tells (playheadDone_front x i s) (·.playheadDone x i) h
    | sequencerFrameEnd =>
      cases he; exact unlessHeld_reportInv_of_tells (by simp [settleSkew]) (fun h => h.sequencerEnd) h
    | dwellExpiry => cases he; exact unlessHeld_reportInv_of_tells (dwellDone_front s) (·.dwellDone) h
    | slideReady => cases he; exact unlessHeld_reportInv_of_tells (readyDone_front s) (·.readyDone) h
    | lateSlide => cases he; exact unlessHeld_reportInv_of_tells (lateDone_front s) (·.lateDone) h
    | timeTrigger => cases he; exact unlessHeld_reportInv_of_tells (testTime_front s) (·.testTime) h
    | readStrobe => cases he; exact readStrobe_reportInv h
    | resetNAsserted => cases he; exact (reportInv_iff _).mpr ⟨ReportUnit.low_lawful _, fun _ => rfl⟩
    | resetNReleased =>
      cases he
      unfold releaseReset
      split
      · exact ReportUnit.Lawful.reportInv (ReportUnit.reset_lawful ..) rfl
      · exact h
    | _ => exact nomatch hg

/-- Settles O60: every command keeps the laws, whatever waits behind it. -/
theorem reportLawsKept : Obligations.ReportLawsKept := by
  intro s t h hs
  unfold step at hs
  split at hs
  · cases hs; exact h
  · next c rest _ =>
    have waiting : ReportInv { s with pending := rest } := h.congr rfl rfl
    exact exec_reportInv waiting c hs

end Sys2Proof.Machine
end

section
/-! PROOFS. The layouts of the reports and the report port: every report's row of the table, its length and its bytes
(R167, R170, 11.9, 11.10), and a read strobe (R169). -/

namespace Sys2Proof.Machine

open Sys2Proof

/-! ### The table of 11.10 -/

/-- Class, kind code and kind fields are those of the table (R170, 11.10). -/
theorem reportRow_eq (b : ReportBody) : reportRow b = (b.cls.code, b.code, b.fields) := by
  cases b with
  | restartDone cause mask => cases cause <;> rfl
  | statusOne x =>
    obtain ⟨free, slots, setId, slide, menu, popup, patch⟩ := x
    cases slide <;> cases menu <;> cases popup <;> rfl
  | statusTwo x =>
    obtain ⟨run, shown, flags, segments, bytes, width, height⟩ := x
    cases run <;> cases shown <;> rfl
  | overrun kind received limit => cases limit <;> rfl
  | abandoned id version reason => cases reason <;> rfl
  | strayFragment id pos => cases pos <;> rfl
  | shown ctx page | late ctx page | stackEmpty ctx page => cases ctx <;> cases page <;> rfl
  | superseded ctx page origin | scheduleFull ctx page origin => cases ctx <;> cases page <;> cases origin <;> rfl
  | undefinedPage ctx page => cases ctx <;> rfl
  | pageBusy ctx page holder => cases ctx <;> cases holder <;> rfl
  | action page button code => cases page <;> rfl
  | keyDropped key number => cases key <;> rfl
  | started entry source => cases source <;> rfl
  | ended reason shown => cases reason <;> cases shown <;> rfl
  | emptyRun entry count => cases entry <;> rfl
  | slideBusyControl op => cases op <;> rfl
  | _ => rfl

/-- A 32-bit field, byte by byte (chapter 11). -/
theorem bytes32_eq (w : BitVec 32) :
    bytes32 w = [BitVec.ofNat 8 (w.toNat / 2 ^ 24), BitVec.ofNat 8 (w.toNat / 2 ^ 16), BitVec.ofNat 8 (w.toNat / 2 ^ 8),
      BitVec.ofNat 8 w.toNat] := by
  simp only [bytes32, BitVec.extractLsb', Nat.shiftRight_eq_div_pow, Nat.pow_zero, Nat.div_one]

/-- A report's bytes are those of its row (R167, 11.9). -/
theorem bytes_eq_reportBytes (r : Report) : r.bytes = reportBytes r := by
  rw [Report.bytes, reportBytes, reportRow_eq, bytes32_eq]; rfl

/-- A class is enabled by the mask bit of its number (R170, 11.3). -/
theorem enabledIn_iff (mask : Byte) (r : Report) : enabledIn mask r = true ↔ mask.toNat / 2 ^ r.body.cls.code % 2 = 1 := by
  rw [enabledIn, BitVec.getLsbD, Nat.testBit_eq_decide_div_mod_eq, decide_eq_true_iff]

/-! ### Lengths (R167) -/

/-- The kind fields take 2 to 14 bytes, which L of 8–20 leaves them (R167, 11.10). -/
theorem fields_length_bounds (b : ReportBody) : 2 ≤ b.fields.length ∧ b.fields.length ≤ 14 := by
  have two (n : Nat) : (bytes16 n).length = 2 := rfl
  cases b <;> simp [ReportBody.fields, two]

theorem len_bounds (r : Report) : 8 ≤ r.len ∧ r.len ≤ 20 := by
  obtain ⟨least, most⟩ := fields_length_bounds r.body
  rw [Report.len]
  omega

/-- L, and L bytes after it (R167, R169). -/
theorem bytes_length (r : Report) : r.bytes.length = r.len + 1 := by
  simp [Report.bytes, Report.len, bytes32]
  omega

/-! ### The queue and the read strobe (R168, R169) -/

/-- A read strobe on an empty queue. -/
theorem ReportUnit.read_empty {u : ReportUnit} (h : u.queue = []) : u.read = { u with port := 0 } := by
  rw [ReportUnit.read, h]

/-- A read strobe delivers the byte at the read position, and the head report leaves with its last byte. -/
theorem ReportUnit.read_head {u : ReportUnit} {r : Report} {rest : List Report} {b : Byte} (h : u.queue = r :: rest)
    (hb : r.bytes[u.readPos]? = some b) :
    u.read =
      if u.readPos = r.len then
        { u with queue := rest, readPos := 0, port := b, attn := rest.any (enabledIn u.mask) }
      else { u with readPos := u.readPos + 1, port := b } := by
  have within : u.readPos < r.len + 1 := by
    rw [← bytes_length]; exact (List.getElem?_eq_some_iff.mp hb).1
  have last : r.len ≤ u.readPos ↔ u.readPos = r.len := by omega
  have byte : r.bytes.getD u.readPos 0 = b := by rw [List.getD_eq_getElem?_getD, hb, Option.getD_some]
  rw [ReportUnit.read, h]
  simp only [last, byte, ReportUnit.testAttn]

/-- READ_STROBE while the pin is high (R169). -/
theorem exec_readStrobe {s : State} (high : s.resetLow = false) :
    exec .readStrobe s = .next { s with report := s.report.read } :=
  congrArg Host.Outcome.next (if_neg (Bool.eq_false_iff.mp high))

/-- Settles O57: the queue, the table, the lengths, and the read strobe. -/
theorem reportPort : Obligations.ReportPort := by
  refine ⟨fun u fc b => rfl, fun r mask => ?_, fun r => ?_, fun s high => ⟨fun empty => ?_, fun r rest b hq hb => ?_⟩⟩
  · rw [reportRow_eq]
    exact ⟨bytes_eq_reportBytes r, rfl, rfl, enabledIn_iff mask r⟩
  · exact ⟨bytes_length r, (len_bounds r).1, (len_bounds r).2, rfl⟩
  · rw [exec_readStrobe high, ReportUnit.read_empty empty]
  · rw [exec_readStrobe high, ReportUnit.read_head hq hb]

end Sys2Proof.Machine
end

section
/-! PROOFS. A Status Request as it arrives: both parts of STATUS with the state of the moment (R172). -/

namespace Sys2Proof.Machine

open Sys2Proof

/-- The slots that hold a current version, counted (R24, R172). -/
theorem tableCount_drawn (st : Store) :
    tableCount Slot.drawn st.slots = ((List.finRange 512).filter fun k => match st.slot k with
      | .ready _ | .updating _ _ | .swapping _ _ | .dropping _ => true
      | _ => false).length := by
  have drawn (x : Slot) : x.drawn = match x with
      | .ready _ | .updating _ _ | .swapping _ _ | .dropping _ => true
      | _ => false := by cases x <;> rfl
  exact congrArg List.length (List.filter_congr fun k _ => drawn (st.slot k))

/-- The page that a context presents (R80). -/
theorem presented_eq (x : CtxState) :
    x.presented = match x with
      | .showing p => some p
      | .transition i _ _ _ _ => i
      | .empty => none := by cases x <;> rfl

/-- The code of the patch state (11.10). -/
theorem patchCode_eq (x : Patch) :
    x.code = match x with
      | .closed => 0
      | .collecting _ _ => 1
      | .scheduled _ _ _ => 2 := by cases x <;> rfl

/-- A segment that has come and gone leaves the totals as they were (R9). -/
theorem visit_totals (p : Port) (n : Nat) : (p.visit n).segTotal = p.segTotal ∧ (p.visit n).byteTotal = p.byteTotal := by
  rw [Port.visit_eq]
  exact ⟨Port.hunted_segTotal p 0, Port.hunted_byteTotal p 0⟩

/-- Settles O58. -/
theorem statusReportsTheState : Obligations.StatusReportsTheState := by
  intro s ha slots presented patch
  have one : statusOneOf (visited s 0) =
      { free := s.store.free.length, slots := slots, setId := s.engine.setId, slide := presented .slide,
        menu := presented .menu, popup := presented .popup, patch := patch } := by
    rw [statusOneOf, StatusOne.mk.injEq]
    exact ⟨rfl, tableCount_drawn s.store, rfl, presented_eq _, presented_eq _, presented_eq _, patchCode_eq _⟩
  have two : statusTwoOf (visited s 0) =
      { run := s.seq.run, shown := s.seq.shown, flags := s.nav.flags, segments := s.port.segTotal,
        bytes := s.port.byteTotal, width := s.mixer.width, height := s.mixer.height } := by
    obtain ⟨segs, bytes⟩ := visit_totals s.port 0
    rw [← segs, ← bytes]; rfl
  rw [exec_express (segmentOf_statusRequest []) rfl ha]
  show Host.Outcome.next (((visited s 0).raise (.statusOne (statusOneOf (visited s 0)))).raise
    (.statusTwo (statusTwoOf (visited s 0)))) = _
  rw [one, two]; rfl

end Sys2Proof.Machine
end

section
/-! PROOFS. Every command ends in a next state and leaves the queue of commands behind it alone. -/

namespace Sys2Proof.Machine

open Sys2Proof

theorem takeFragment_pending (b : List Byte) (s : State) : (takeFragment b s).pending = s.pending := by
  have held (k : ObjId) : (endHeldLoad k s).pending = s.pending := by unfold endHeldLoad; split <;> rfl
  unfold takeFragment
  split
  · rfl
  · unfold requestLoad; split <;> exact held _
  · unfold joinLoad
    dsimp only
    split
    · split <;> rfl
    · split <;> rfl
    all_goals rfl

theorem takeDrop_pending (b : List Byte) (s : State) : (takeDrop b s).pending = s.pending := by
  unfold takeDrop dropObject
  split
  · rfl
  · dsimp only; split <;> rfl

/-- No segment reaches the queue of commands. -/
theorem takeSegment_pending (g : Segment) (s : State) : (takeSegment g s).pending = s.pending := by
  by_cases hx : g.kind.express = true
  · obtain h | h := takeSegment_express hx s
    · exact pending_of_front h
    · rw [h]; rfl
  · obtain ⟨k, b⟩ := g
    cases k with
    | setOpen => simp only [takeSegment, takeSetOpen]; split <;> simp [malformed, setOpen]
    | objectData => exact takeFragment_pending b s
    | objectDrop => exact takeDrop_pending b s
    | palette | page | buttons | animations | scroll | showPage | slideList =>
      exact pending_of_front (by simp [takeSegment])
    | _ => exact absurd (by rfl) hx

theorem completeFragment_pending (l : Load) (pos : Position) (code : List Byte) (s : State) :
    (completeFragment l pos code s).pending = s.pending := by
  unfold completeFragment
  split
  · rfl
  · cases pos <;> rfl

/-- Nothing that arrives at the segment port reaches the queue of commands. -/
theorem pending_routed (waiting : List Instr) : Routed fun s => s.pending = waiting where
  port _ _ h := h
  raise _ _ h := h
  segment g s h := (takeSegment_pending g s).trans h
  fragment l pos code s h := (completeFragment_pending l pos code s).trans h

theorem unlessHeld_pending {f : State → State} {s : State} (hf : (f s).pending = s.pending) :
    (unlessHeld f s).pending = s.pending := unlessHeld_keeps (P := fun t => t.pending = s.pending) (fun _ => hf) rfl

theorem unlessHeld_pending_of_front {f : State → State} {s : State} (hf : (f s).front = s.front) :
    (unlessHeld f s).pending = s.pending := unlessHeld_pending (pending_of_front hf)

/-- Settles O2, command by command: none of the port, the pin and the blocks reaches the queue. -/
theorem everyCommandCompletes : Obligations.EveryCommandCompletes := by
  intro c s
  have routed := pending_routed s.pending
  cases hg : segmentOf c with
  | some g => exact ⟨_, exec_segmentOf hg s, unlessHeld_pending (routed.present g rfl)⟩
  | none =>
    cases c with
    | segmentByte b => exact ⟨_, rfl, unlessHeld_pending (routed.receiveByte b rfl)⟩
    | fragmentComplete => exact ⟨_, rfl, unlessHeld_pending (routed.fragmentDone rfl)⟩
    | engineFrameStart => exact ⟨_, rfl, unlessHeld_pending_of_front (engineStart_front s)⟩
    | transitionEnd x => exact ⟨_, rfl, unlessHeld_pending_of_front (transitionDone_front x s)⟩
    | storeFrameStart => exact ⟨_, rfl, unlessHeld_pending (State.setStore_pending ..)⟩
    | paletteFrameStart => exact ⟨_, rfl, unlessHeld_pending_of_front (paletteStart_front s)⟩
    | mixerFrameStart => exact ⟨_, rfl, unlessHeld_pending_of_front rfl⟩
    | line l => exact ⟨_, rfl, pending_of_front (by split <;> simp)⟩
    | mixerFrameEnd => exact ⟨_, rfl, unlessHeld_pending_of_front (by simp [settleSkew])⟩
    | storeFrameEnd => exact ⟨_, rfl, unlessHeld_pending (by simp [settleSkew])⟩
    | navFrameEnd => exact ⟨_, rfl, unlessHeld_pending_of_front (by simp [settleSkew])⟩
    | activationExpiry x => exact ⟨_, rfl, unlessHeld_pending_of_front (activationDone_front x s)⟩
    | playheadStep x i => exact ⟨_, rfl, unlessHeld_pending_of_front (playheadDone_front x i s)⟩
    | sequencerFrameEnd => exact ⟨_, rfl, unlessHeld_pending_of_front (by simp [settleSkew])⟩
    | dwellExpiry => exact ⟨_, rfl, unlessHeld_pending_of_front (dwellDone_front s)⟩
    | slideReady => exact ⟨_, rfl, unlessHeld_pending_of_front (readyDone_front s)⟩
    | lateSlide => exact ⟨_, rfl, unlessHeld_pending_of_front (lateDone_front s)⟩
    | timeTrigger => exact ⟨_, rfl, unlessHeld_pending_of_front (testTime_front s)⟩
    | readStrobe => exact ⟨_, rfl, pending_of_front (by split <;> simp)⟩
    | resetNAsserted => exact ⟨_, rfl, rfl⟩
    | resetNReleased => exact ⟨_, rfl, by unfold releaseReset; split <;> rfl⟩
    | _ => exact nomatch hg

end Sys2Proof.Machine
end

section
/-! PROOFS. The step of the machine, by what waits in the queue of commands. -/

namespace Sys2Proof.Machine

open Sys2Proof

theorem step_of_pending_nil {s : State} (hq : s.pending = []) : step s = .next s := by
  rw [step, hq]

theorem step_of_pending_cons {s : State} {c : Instr} {rest : List Instr} (hq : s.pending = c :: rest) :
    step s = exec c { s with pending := rest } := by
  rw [step, hq]

/-- Settles O1, by whether a command waits; the state with its own queue put back is the state itself. -/
theorem stepRunsFrontCommand : Obligations.StepRunsFrontCommand := by
  constructor
  · intro c s
    have front : step { s with pending := c :: s.pending } = exec c { s with pending := s.pending } :=
      step_of_pending_cons rfl
    exact front
  · intro s hq
    exact step_of_pending_nil hq

end Sys2Proof.Machine
end
